-- ==== Sys2Proof/Word.lean ====
section
/-! DEFINITION. The word types of the LightShow framer: bytes of the two streams, handler identities, command words (R12, R15, R55). -/

namespace Sys2Proof

/-- An unsigned 8-bit value (R15). -/
abbrev Byte := BitVec 8

/-- An opaque 16-bit handler identity (R12). -/
abbrev HandlerId := BitVec 16

/-- One 32-bit beat of the command channel (R80). -/
abbrev CmdWord := BitVec 32

end Sys2Proof
end

