-- ==== Sys2Proof/Config.lean ====
section
/-! DEFINITION. What one LSF is built with: the four parameters of 00_scope.md (R7, R9, R10, R11), the fixed codes (R8, R13) and the two
reference configurations (R14). A `Config` stands in State, so every statement quantifies over it. -/

namespace Sys2Proof

/-- The control code that begins a message (R8). -/
abbrev START : Byte := 0xFF#8

/-- The control code that ends a message (R8). -/
abbrev END : Byte := 0x00#8

/-- What NEXT returns when it delivers no payload byte (R13). -/
abbrev SENTINEL : Byte := 0x00#8

/-- The implementation parameters, fixed for a whole run (R263). -/
structure Config where
  /-- ESC, any byte (R7). -/
  esc : Byte
  /-- LITERAL, neither START nor END (R9). -/
  literal : Byte
  /-- N_TYPES, 1 to 256 (R10). -/
  nTypes : Nat
  /-- RETRY_BUDGET, at least 1 (R11). -/
  retryBudget : Nat
  deriving DecidableEq, Repr

/-- The configurations that R7 to R11 admit (R263: "checked against"). -/
def Config.wf (c : Config) : Bool :=
  c.literal != START && c.literal != END && decide (1 ≤ c.nTypes) && decide (c.nTypes ≤ 256)
    && decide (1 ≤ c.retryBudget)

/-- Reference configuration RC1 (R14). -/
def Config.rc1 : Config := { esc := 0xAA#8, literal := 0x55#8, nTypes := 16, retryBudget := 3 }

/-- Reference configuration RC2 (R14): ESC is the Type 3 of the source's scenario. -/
def Config.rc2 : Config := { Config.rc1 with esc := 0x03#8 }

end Sys2Proof
end

