-- ==== Sys2Proof/Machine/State.lean ====
section
/-! DEFINITION. The machine's state (10_state.md), the reasons a step can stop, and the state after reset. -/

namespace Sys2Proof.Machine

/-- rx_state (R21). -/
inductive RxState where
  | idle
  | awaitType
  | dispatching
  deriving DecidableEq, Repr

/-- The two values of after_return (R26). -/
inductive Resume where
  | idle
  | awaitType
  deriving DecidableEq, Repr

/-- The SEND_BUF being gathered: its Type, the beats still to come, the bytes so far (R32). -/
structure Collect where
  type : Byte
  remaining : Nat
  bytes : List Byte
  deriving DecidableEq, Repr

/-- The status of a response (R92). -/
inductive Status where
  | ok
  | sendOpen
  | noSend
  | notOpen
  | closed
  | timeout
  | illegal
  | range
  deriving DecidableEq, Repr

/-- One beat of the RSP channel (R38, R92). -/
structure Response where
  ok : Bool
  status : Status
  data : Byte
  deriving DecidableEq, Repr

/-- Which agent's step comes next (R61, R241): the transport appends bytes, the receive engine steps, the host's next command word is taken,
the NEXT in progress polls, or the block is reset. -/
inductive Move where
  | arrive (bytes : List Byte)
  | engine
  | host
  | poll
  | reset
  deriving DecidableEq, Repr

/-- The state of the block, of the transport and of the model's inputs. -/
structure State where
  /-- The parameters, fixed for the run (R263). -/
  cfg : Config
  /-- rx_state (R21). -/
  rxState : RxState
  /-- esc_pending (R22). -/
  escPending : Bool
  /-- msg_open (R23). -/
  msgOpen : Bool
  /-- cur_handler (R24). -/
  curHandler : Option HandlerId
  /-- cur_type (R25). -/
  curType : Option Byte
  /-- after_return (R26). -/
  afterReturn : Resume
  /-- next_busy (R27). -/
  nextBusy : Bool
  /-- retry (R28). -/
  retry : Nat
  /-- tx_open (R29). -/
  txOpen : Bool
  /-- The handler table, slot t at position t (R30). -/
  table : List (Option HandlerId)
  /-- collect (R32). -/
  collect : Option Collect
  /-- The RX queue, head first (R33, R50). -/
  rxq : List Byte
  /-- The TX log, oldest first (R33, R51). -/
  txlog : List Byte
  /-- The dispatch events, oldest first (R33, R121). -/
  disp : List (HandlerId × Byte)
  /-- The responses, oldest first (R38, R92, R276). -/
  rsp : List Response
  /-- The model's own: the words the host still has to issue on CMD, oldest first (R38; log 1). -/
  cmdq : List CmdWord
  /-- The model's own: which agent steps next, oldest first (R61, R241; log 1). -/
  sched : List Move
  deriving DecidableEq, Repr

/-- The hardware has no faults (R230: "no rule of LSF produces a fault or a stuck state"), so there is none to name. Nobody raises one. -/
inductive Fault
  deriving DecidableEq, Repr

/-- The reasons the model itself stops. -/
inductive Refusal where
  /-- An instruction without a meaning in this model. Raised by `exec` only, for an arm that is rejected by name (there is none). Safe. -/
  | notModelled (mnemonic : String)
  /-- A wire token in a state that does not hold it (another context, or another byte at the queue's head): no rule gives it an effect there.
  Raised by the meanings of the wire rows when they are asked out of context; `step` never does so. Safe. -/
  | outOfContext
  /-- A configuration that R7 to R11 do not admit; I2 of 93_implementation_defined.md: "refuse". Raised by `step`. Safe. -/
  | configNotAdmitted
  deriving DecidableEq, Repr

/-- The outcome of a meaning and of a step. -/
abbrev Out := Host.Outcome State Fault Refusal

/-- The launch state of R263 under a configuration and with the launch contents of the RX queue; block fields as R36 gives them. -/
def State.launch (cfg : Config) (rxq : List Byte) : State where
  cfg := cfg
  rxState := .idle
  escPending := false
  msgOpen := false
  curHandler := none
  curType := none
  afterReturn := .idle
  nextBusy := false
  retry := 0
  txOpen := false
  table := List.replicate cfg.nTypes none
  collect := none
  rxq := rxq
  txlog := []
  disp := []
  rsp := []
  cmdq := []
  sched := []

/-- The machine right after reset, on a fresh link (R36, R263: "`[]` for a fresh link"), under RC1 of R14 (DESIGN CHOICE, log 3). -/
def State.reset : State := State.launch Config.rc1 []

end Sys2Proof.Machine
end

