-- ==== Sys2Proof/Machine/Flags.lean ====
section
/-! DEFINITION. Every flag computation: the ok bit and the code of a response (R92), the form of the handler table (R30), when the retry budget is
spent (R156). -/

namespace Sys2Proof.Machine

/-- The 3-bit code of a status (R92). -/
def Status.code : Status → BitVec 3
  | .ok => 0#3
  | .sendOpen => 1#3
  | .noSend => 2#3
  | .notOpen => 3#3
  | .closed => 4#3
  | .timeout => 5#3
  | .illegal => 6#3
  | .range => 7#3

/-- The ok bit of a cursor command's response (R92). -/
def okCursor (st : Status) : Bool := st == .ok || st == .closed || st == .timeout

/-- The ok bit of every other command's response (R92). -/
def okCommand (st : Status) : Bool := st == .ok

/-- The data byte of a HAS_NEXT response (R92). -/
def boolData (b : Bool) : Byte := if b then 0x01#8 else 0x00#8

/-- An empty poll that makes the count `n` is the last one of its NEXT (R156). -/
def budgetSpent (cfg : Config) (n : Nat) : Bool := n == cfg.retryBudget

/-- The rx_state that RETURN takes from after_return (R26, R160). -/
def Resume.rxState : Resume → RxState
  | .idle => .idle
  | .awaitType => .awaitType

/-- The form of the handler table: one slot for each Type below N_TYPES (R30, "never resized"). -/
def State.tableWf (s : State) : Bool := s.table.length == s.cfg.nTypes

end Sys2Proof.Machine
end

