-- ==== Sys2Proof/Syntax.lean ====
section
/-! DEFINITION. The instructions: one constructor per row of spec/opcode_table.json (R2: wire tokens read in context, and host commands). -/

namespace Sys2Proof

/-- The 30 rows of the opcode table. -/
inductive Instr where
  /-- RX.IDLE.ORD: an ordinary byte outside a frame (R103). -/
  | rxIdleOrd (d : Byte)
  /-- RX.IDLE.ESC: an ESC that begins a pair (R104). -/
  | rxIdleEsc
  /-- RX.IDLE.ESC_END (R105). -/
  | rxIdleEscEnd
  /-- RX.IDLE.ESC_START: frame-start detection (R106). -/
  | rxIdleEscStart
  /-- RX.IDLE.ESC_LITERAL (R107). -/
  | rxIdleEscLiteral
  /-- RX.IDLE.ESC_OTHER: a malformed pair (R108). -/
  | rxIdleEscOther (c : Byte)
  /-- RX.AWAIT.TYPE: the Type as an ordinary byte (R109). -/
  | rxAwaitType (t : Byte)
  /-- RX.AWAIT.ESC (R110). -/
  | rxAwaitEsc
  /-- RX.AWAIT.ESC_LITERAL: the escaped Type (R111). -/
  | rxAwaitEscLiteral
  /-- RX.AWAIT.ESC_START: a repeated start (R112). -/
  | rxAwaitEscStart
  /-- RX.AWAIT.ESC_END: a frame with no Type (R113). -/
  | rxAwaitEscEnd
  /-- RX.AWAIT.ESC_OTHER: a malformed pair (R114). -/
  | rxAwaitEscOther (c : Byte)
  /-- CUR.ORD: a NEXT poll delivers an ordinary byte (R150). -/
  | curOrd (d : Byte)
  /-- CUR.ESC: a NEXT poll consumes an ESC (R151). -/
  | curEsc
  /-- CUR.ESC_LITERAL: a NEXT poll delivers ESC (R152). -/
  | curEscLiteral
  /-- CUR.ESC_START: a new frame cuts the open message short (R153). -/
  | curEscStart
  /-- CUR.ESC_OTHER: a malformed pair inside the message (R154). -/
  | curEscOther (c : Byte)
  /-- CUR.ESC_END: the message ends (R155). -/
  | curEscEnd
  /-- CUR.EMPTY: a NEXT poll of an empty queue (R156). -/
  | curEmpty
  /-- BEGIN_SEND (R81, R180). -/
  | beginSend (type : Byte)
  /-- SEND_BYTE (R82, R181). -/
  | sendByte (b : Byte)
  /-- END_SEND (R83, R182). -/
  | endSend
  /-- SEND (R84, R183). -/
  | send (type : Byte)
  /-- SEND_BUF header with the beat count L (R85, R86, R184). -/
  | sendBuf (type : Byte) (len : BitVec 16)
  /-- SEND_BUF_DATA: one data beat (R86). -/
  | sendBufData (b : Byte)
  /-- REGISTER (R87, R210). -/
  | register (type : Byte) (hid : HandlerId)
  /-- HAS_NEXT (R88, R141). -/
  | hasNext
  /-- NEXT: the start transition (R89, R146). -/
  | next
  /-- RETURN (R90, R160). -/
  | ret
  /-- RESERVED: any other opcode (R91). -/
  | reserved (op : Byte)
  deriving DecidableEq, Repr

end Sys2Proof
end

