-- ==== Sys2Proof/WellFormed.lean ====
section
/-! DEFINITION. Which instructions the encodings admit: the operand conditions of the opcode table's context column and of R91. -/

namespace Sys2Proof

/-- The opcodes that R81 to R90 name (R96). -/
def assignedOps : List Byte :=
  [0x01#8, 0x02#8, 0x03#8, 0x04#8, 0x05#8, 0x06#8, 0x10#8, 0x20#8, 0x21#8, 0x22#8]

/-- A code after ESC that is none of START, END and LITERAL (R70, R76). -/
def Config.malformedCode (cfg : Config) (c : Byte) : Bool :=
  c != START && c != END && c != cfg.literal

/-- An instruction is well formed when its operands are ones that its own encoding can carry. -/
def Instr.wf (cfg : Config) : Instr → Bool
  | .rxIdleOrd d => d != cfg.esc
  | .rxIdleEsc => true
  | .rxIdleEscEnd => true
  | .rxIdleEscStart => true
  | .rxIdleEscLiteral => true
  | .rxIdleEscOther c => cfg.malformedCode c
  | .rxAwaitType t => t != cfg.esc
  | .rxAwaitEsc => true
  | .rxAwaitEscLiteral => true
  | .rxAwaitEscStart => true
  | .rxAwaitEscEnd => true
  | .rxAwaitEscOther c => cfg.malformedCode c
  | .curOrd d => d != cfg.esc
  | .curEsc => true
  | .curEscLiteral => true
  | .curEscStart => true
  | .curEscOther c => cfg.malformedCode c
  | .curEscEnd => true
  | .curEmpty => true
  | .beginSend _ => true
  | .sendByte _ => true
  | .endSend => true
  | .send _ => true
  | .sendBuf _ _ => true
  | .sendBufData _ => true
  | .register _ _ => true
  | .hasNext => true
  | .next => true
  | .ret => true
  | .reserved op => !assignedOps.contains op

end Sys2Proof
end

