-- ==== Sys2Proof/Decode.lean ====
section
/-! DEFINITION. Decoding and encoding (30_encoding.md): the command words of part 2, one RX byte in the context it is read in, and the wire
tokens of part 1. Decoding is total and rejects nothing: R126 lists every combination of the receive engine's inputs, and R91 makes every
other command word the instruction RESERVED. -/

namespace Sys2Proof

/-- Who reads an RX byte, and so which rules it is read by: the engine in IDLE (R103 to R108), the engine in AWAIT_TYPE (R109 to R114), a NEXT
poll (R150 to R155). -/
inductive Reader where
  | idle
  | awaitType
  | poll
  deriving DecidableEq, Repr

/-- What a step hands the decoder. -/
inductive Beat where
  /-- An RX byte, its reader, and the escape-pending flag it is read under. -/
  | byte (r : Reader) (esc : Bool) (b : Byte)
  /-- A NEXT poll that finds the queue empty: no byte (R156). -/
  | empty
  /-- A word of the command channel. -/
  | word (w : CmdWord)
  deriving DecidableEq, Repr

/-! ## Command words (R80 to R96) -/

/-- Field OP (R80). -/
def opField (w : CmdWord) : Byte := w.extractLsb' 24 8

/-- Field A (R80). -/
def aField (w : CmdWord) : Byte := w.extractLsb' 16 8

/-- Field B (R80). -/
def bField (w : CmdWord) : BitVec 16 := w.extractLsb' 0 16

/-- The command a word stands for, by its OP (R96); bits of a field the command does not use are ignored (R80). -/
def decodeCommand (w : CmdWord) : Instr :=
  let op := opField w
  if op = 0x01#8 then .beginSend (aField w)
  else if op = 0x02#8 then .sendByte (aField w)
  else if op = 0x03#8 then .endSend
  else if op = 0x04#8 then .send (aField w)
  else if op = 0x05#8 then .sendBuf (aField w) (bField w)
  else if op = 0x06#8 then .sendBufData (aField w)
  else if op = 0x10#8 then .register (aField w) (bField w)
  else if op = 0x20#8 then .hasNext
  else if op = 0x21#8 then .next
  else if op = 0x22#8 then .ret
  else .reserved op

/-! ## RX bytes in context (R102, R149) -/

/-- The token row a byte stands for. The escape-pending flag is tested before the byte value (R240). -/
def decodeByte (cfg : Config) (r : Reader) (esc : Bool) (b : Byte) : Instr :=
  match r, esc with
  | .idle, false => if b = cfg.esc then .rxIdleEsc else .rxIdleOrd b
  | .idle, true =>
    if b = START then .rxIdleEscStart
    else if b = END then .rxIdleEscEnd
    else if b = cfg.literal then .rxIdleEscLiteral
    else .rxIdleEscOther b
  | .awaitType, false => if b = cfg.esc then .rxAwaitEsc else .rxAwaitType b
  | .awaitType, true =>
    if b = cfg.literal then .rxAwaitEscLiteral
    else if b = START then .rxAwaitEscStart
    else if b = END then .rxAwaitEscEnd
    else .rxAwaitEscOther b
  | .poll, false => if b = cfg.esc then .curEsc else .curOrd b
  | .poll, true =>
    if b = cfg.literal then .curEscLiteral
    else if b = START then .curEscStart
    else if b = END then .curEscEnd
    else .curEscOther b

/-- The decoder, total on every beat. -/
def decode (cfg : Config) : Beat → Instr
  | .byte r esc b => decodeByte cfg r esc b
  | .empty => .curEmpty
  | .word w => decodeCommand w

/-! ## The encoder -/

/-- A command word from its fields (R80). -/
def wordOf (op a : Byte) (b : BitVec 16) : CmdWord := op ++ a ++ b

/-- The beat that carries an instruction; unused bits are zero (R80: "should-be-zero"). -/
def encode (cfg : Config) : Instr → Beat
  | .rxIdleOrd d => .byte .idle false d
  | .rxIdleEsc => .byte .idle false cfg.esc
  | .rxIdleEscEnd => .byte .idle true END
  | .rxIdleEscStart => .byte .idle true START
  | .rxIdleEscLiteral => .byte .idle true cfg.literal
  | .rxIdleEscOther c => .byte .idle true c
  | .rxAwaitType t => .byte .awaitType false t
  | .rxAwaitEsc => .byte .awaitType false cfg.esc
  | .rxAwaitEscLiteral => .byte .awaitType true cfg.literal
  | .rxAwaitEscStart => .byte .awaitType true START
  | .rxAwaitEscEnd => .byte .awaitType true END
  | .rxAwaitEscOther c => .byte .awaitType true c
  | .curOrd d => .byte .poll false d
  | .curEsc => .byte .poll false cfg.esc
  | .curEscLiteral => .byte .poll true cfg.literal
  | .curEscStart => .byte .poll true START
  | .curEscOther c => .byte .poll true c
  | .curEscEnd => .byte .poll true END
  | .curEmpty => .empty
  | .beginSend t => .word (wordOf 0x01#8 t 0#16)
  | .sendByte b => .word (wordOf 0x02#8 b 0#16)
  | .endSend => .word (wordOf 0x03#8 0#8 0#16)
  | .send t => .word (wordOf 0x04#8 t 0#16)
  | .sendBuf t l => .word (wordOf 0x05#8 t l)
  | .sendBufData b => .word (wordOf 0x06#8 b 0#16)
  | .register t h => .word (wordOf 0x10#8 t h)
  | .hasNext => .word (wordOf 0x20#8 0#8 0#16)
  | .next => .word (wordOf 0x21#8 0#8 0#16)
  | .ret => .word (wordOf 0x22#8 0#8 0#16)
  | .reserved op => .word (wordOf op 0#8 0#16)

/-- The bits of a command word that its command uses: OP, and A and B where its rule names them (R81 to R91). -/
def usedBits : Instr → CmdWord
  | .beginSend _ | .sendByte _ | .send _ | .sendBufData _ => 0xFFFF0000#32
  | .sendBuf _ _ | .register _ _ => 0xFFFFFFFF#32
  | _ => 0xFF000000#32

/-! ## Wire tokens (R70 to R78) -/

/-- A token of the RX or TX stream (R70). -/
inductive Token where
  /-- An ordinary byte, not ESC. -/
  | ord (b : Byte)
  | start
  | stop
  | literal
  /-- ESC and a code that is none of the three. -/
  | bad (c : Byte)
  deriving DecidableEq, Repr

/-- The tokens that R70's table admits. -/
def Token.wf (cfg : Config) : Token → Bool
  | .ord b => b != cfg.esc
  | .start => true
  | .stop => true
  | .literal => true
  | .bad c => cfg.malformedCode c

/-- A token's bytes (R70). -/
def Token.bytes (cfg : Config) : Token → List Byte
  | .ord b => [b]
  | .start => [cfg.esc, START]
  | .stop => [cfg.esc, END]
  | .literal => [cfg.esc, cfg.literal]
  | .bad c => [cfg.esc, c]

/-- The token that ESC and a control code make (R72). -/
def codeToken (cfg : Config) (c : Byte) : Token :=
  if c = START then .start
  else if c = END then .stop
  else if c = cfg.literal then .literal
  else .bad c

/-- A byte sequence cut into tokens from left to right, and whether it ends inside an escape pair (R71). The flag says whether it begins inside one. -/
def tokenize (cfg : Config) : Bool → List Byte → List Token × Bool
  | esc, [] => ([], esc)
  | false, b :: bs =>
    if b = cfg.esc then tokenize cfg true bs
    else (.ord b :: (tokenize cfg false bs).1, (tokenize cfg false bs).2)
  | true, b :: bs => (codeToken cfg b :: (tokenize cfg false bs).1, (tokenize cfg false bs).2)

/-- The data byte a token carries, if it is a data token (R74). -/
def Token.data (cfg : Config) : Token → Option Byte
  | .ord b => some b
  | .literal => some cfg.esc
  | .start => none
  | .stop => none
  | .bad _ => none

/-! ## The opcode table's words -/

/-- The beat that a table row's bits stand for. A command row is a 32-bit word. A wire row's byte is read in a context that the row's bits do not
hold: the bytes the table fixes, 0x00 and 0xFF, are second bytes of a pair ("second byte of ESC END"), any other byte is the first byte of a
token, both in IDLE, the reset state (DESIGN CHOICE, log 6). The row of no bits is the empty poll. -/
def tableBeat (nbits w : Nat) : Option Beat :=
  let b := BitVec.ofNat 8 w
  if nbits = 32 then some (.word (BitVec.ofNat 32 w))
  else if nbits = 8 then some (.byte .idle (b == END || b == START) b)
  else if nbits = 0 then some .empty
  else none

/-- The instruction the decoder reads from a table row's bits, under the configuration of the reset state (RC1, log 3). -/
def decodeTableWord (nbits w : Nat) : Option Instr :=
  (tableBeat nbits w).map (decode Config.rc1)

end Sys2Proof
end

