-- ==== Sys2Proof/Machine/Operands.lean ====
section
/-! DEFINITION. Operand forms: how data bytes and frames are laid out on the wire (R73, R74), the handler-table lookup of a Type operand (R212),
and the token an RX byte is for its reader. -/

namespace Sys2Proof.Machine

/-- The encoding of one data byte (R74). -/
def enc (cfg : Config) (v : Byte) : List Byte :=
  if v = cfg.esc then [cfg.esc, cfg.literal] else [v]

/-- What opens a frame: ESC START and the encoded Type (R73, R180). -/
def openBytes (cfg : Config) (t : Byte) : List Byte := [cfg.esc, START] ++ enc cfg t

/-- What closes a frame: ESC END (R73, R182). -/
def closeBytes (cfg : Config) : List Byte := [cfg.esc, END]

/-- A whole frame (R73, R184). -/
def frame (cfg : Config) (t : Byte) (bs : List Byte) : List Byte :=
  openBytes cfg t ++ bs.flatMap (enc cfg) ++ closeBytes cfg

/-- A Type is in range when it is below N_TYPES, compared unsigned (R10, R75). -/
def inRange (cfg : Config) (t : Byte) : Bool := decide (t.toNat < cfg.nTypes)

/-- The handler-table lookup: an out-of-range Type and an unset slot both miss (R212). -/
def State.lookup (s : State) (t : Byte) : Option HandlerId :=
  if inRange s.cfg t then s.table.getD t.toNat none else none

/-- The bytes that are malformed after ESC (R76, R231). -/
def isMalformed (cfg : Config) (c : Byte) : Bool := c != START && c != END && c != cfg.literal

/-- Whether a reader's rules apply in a state: rx_state for the engine (R100), next_busy for a NEXT poll (R149). -/
def State.reads (s : State) : Reader → Bool
  | .idle => s.rxState == .idle
  | .awaitType => s.rxState == .awaitType
  | .poll => s.nextBusy

end Sys2Proof.Machine
end

