-- ==== Sys2Proof/Machine/Ops.lean ====
section
/-! DEFINITION. The named operations over the streams, the table and the session fields that the meanings share: the primitives of R16, the
response (R92), the dispatcher (R120 to R122), the return (R160), the end of a NEXT (R149), the command port (R27, R86) and reset (R260). -/

namespace Sys2Proof.Machine

/-! ## Primitives (R16, R50, R51) -/

/-- RxRead: the head of the RX queue is consumed. -/
def State.rxRead (s : State) : State := { s with rxq := s.rxq.tail }

/-- The transport delivers bytes (R33, R53). -/
def State.rxAppend (s : State) (bs : List Byte) : State := { s with rxq := s.rxq ++ bs }

/-- TxWrite of each byte in turn (R51). -/
def State.txWrite (s : State) (bs : List Byte) : State := { s with txlog := s.txlog ++ bs }

/-- TableWrite of an in-range Type (R210). -/
def State.tableWrite (s : State) (t : Byte) (h : HandlerId) : State :=
  { s with table := s.table.set t.toNat (some h) }

/-- Respond (R16, R92). -/
def State.respond (s : State) (ok : Bool) (st : Status) (d : Byte) : State :=
  { s with rsp := s.rsp ++ [{ ok := ok, status := st, data := d }] }

/-- The response of HAS_NEXT and NEXT. -/
def State.respondCursor (s : State) (st : Status) (d : Byte) : State := s.respond (okCursor st) st d

/-- The response of every other command, whose data is 0x00 (R92). -/
def State.respondCommand (s : State) (st : Status) : State := s.respond (okCommand st) st 0x00#8

/-! ## Session fields -/

/-- st.esc_pending <- e. -/
def State.setEsc (s : State) (e : Bool) : State := { s with escPending := e }

/-- st.rx_state <- r. -/
def State.setRxState (s : State) (r : RxState) : State := { s with rxState := r }

/-- st.retry <- n. -/
def State.setRetry (s : State) (n : Nat) : State := { s with retry := n }

/-- st.tx_open <- b. -/
def State.setTxOpen (s : State) (b : Bool) : State := { s with txOpen := b }

/-- st.collect <- c. -/
def State.setCollect (s : State) (c : Option Collect) : State := { s with collect := c }

/-- The cursor has consumed ESC END: the message closes (R155, R141). -/
def State.closeMessage (s : State) : State := { s with msgOpen := false }

/-- The cursor has consumed ESC START: the message closes and RETURN will resume at the new frame's Type (R153, R141). -/
def State.cutMessage (s : State) : State := { s with msgOpen := false, afterReturn := .awaitType }

/-! ## Dispatch and return, the only control transfers (R242, R243) -/

/-- Dispatch(h, t): taken in place of a trap entry, it records the handler and the Type and emits one DISP beat (R121). -/
def State.dispatchTo (s : State) (h : HandlerId) (t : Byte) : State :=
  { s with
    rxState := .dispatching
    msgOpen := true
    curHandler := some h
    curType := some t
    afterReturn := .idle
    disp := s.disp ++ [(h, t)] }

/-- TypeDecoded(t): the dispatcher, a multiplexer over the table slots (R120); a miss returns to IDLE (R122). -/
def State.typeDecoded (s : State) (t : Byte) : State :=
  match s.lookup t with
  | some h => s.dispatchTo h t
  | none => s.setRxState .idle

/-- The return from a dispatch: rx_state from after_return, the dispatch fields cleared, esc_pending kept (R160, R243). -/
def State.returnFromDispatch (s : State) : State :=
  { s with
    rxState := s.afterReturn.rxState
    msgOpen := false
    curHandler := none
    curType := none
    afterReturn := .idle }

/-! ## NEXT (R146, R149) -/

/-- st.next_busy <- true; st.retry <- 0 (R146). -/
def State.beginNext (s : State) : State := { s with nextBusy := true, retry := 0 }

/-- Finish(ok, s, d): the NEXT in progress ends with its response (R149). -/
def State.finishNext (s : State) (st : Status) (d : Byte) : State :=
  { s with nextBusy := false, retry := 0 }.respondCursor st d

/-! ## Wire tokens in context -/

/-- A wire row acts when its reader's rules apply, the escape-pending flag is as its row says, its byte is at the head of the RX queue and its
operand is one its encoding admits. It then does RxRead and its effect. Elsewhere no rule gives it an effect (log 7). -/
def onToken (r : Reader) (esc : Bool) (b : Byte) (operandOk : Bool) (s : State) (effect : State → State) : Out :=
  if s.reads r && s.escPending == esc && s.rxq.head? == some b && operandOk then .next (effect s.rxRead)
  else .refused .outOfContext

/-! ## The command port -/

/-- A word other than SEND_BUF_DATA that arrives while a SEND_BUF is gathered: the gather is dropped with ILLEGAL and no TX byte (R86). -/
def State.interruptGather (s : State) : State :=
  match s.collect with
  | none => s
  | some _ => (s.setCollect none).respondCommand .illegal

/-- A command acts when the port takes it. While a NEXT is in progress the port takes none, and nothing happens (R27). A command word other
than SEND_BUF_DATA first interrupts a gather (R86, R240). -/
def onCommand (s : State) (effect : State → State) : Out :=
  if s.nextBusy then .next s else .next (effect s.interruptGather)

/-- SEND_BUF_DATA is the one command word that continues a gather instead of interrupting it (R86). -/
def onDataBeat (s : State) (effect : State → State) : Out :=
  if s.nextBusy then .next s else .next (effect s)

/-! ## Reset -/

/-- The rst channel: every block field takes its value of R36, every operation in progress is abandoned without a response, and the transport,
the logs and the host's words are not touched (R260, R261). -/
def State.resetBlock (s : State) : State :=
  { s with
    rxState := .idle
    escPending := false
    msgOpen := false
    curHandler := none
    curType := none
    afterReturn := .idle
    nextBusy := false
    retry := 0
    txOpen := false
    table := List.replicate s.cfg.nTypes none
    collect := none }

end Sys2Proof.Machine
end

