-- ==== Sys2Proof/Machine/Cursor.lean ====
section
/-! DEFINITION. The payload cursor and the handler's return (41_cursor.md): the rows of a NEXT poll (R149 to R156), HAS_NEXT (R141), the start
of NEXT (R146) and RETURN (R160). -/

namespace Sys2Proof.Machine

/-! ## NEXT polls -/

/-- R150: the byte is delivered. -/
def execCurOrd (d : Byte) (s : State) : Out :=
  onToken .poll false d (d != s.cfg.esc) s fun s => (s.setRetry 0).finishNext .ok d

/-- R151: the NEXT stays in progress. -/
def execCurEsc (s : State) : Out :=
  onToken .poll false s.cfg.esc true s fun s => (s.setRetry 0).setEsc true

/-- R152: ESC is delivered. -/
def execCurEscLiteral (s : State) : Out :=
  onToken .poll true s.cfg.literal true s fun s => ((s.setRetry 0).setEsc false).finishNext .ok s.cfg.esc

/-- R153: a new frame start cuts the message short. -/
def execCurEscStart (s : State) : Out :=
  onToken .poll true START true s fun s => ((s.setRetry 0).setEsc false).cutMessage.finishNext .closed SENTINEL

/-- R154: a malformed pair is dropped, the message stays open, polling goes on. -/
def execCurEscOther (c : Byte) (s : State) : Out :=
  onToken .poll true c (isMalformed s.cfg c) s fun s => (s.setRetry 0).setEsc false

/-- R155: the message ends. -/
def execCurEscEnd (s : State) : Out :=
  onToken .poll true END true s fun s => ((s.setRetry 0).setEsc false).closeMessage.finishNext .closed SENTINEL

/-- One empty poll: the count goes up, and the last one ends the NEXT (R156). -/
def State.emptyPoll (s : State) : State :=
  if budgetSpent s.cfg (s.retry + 1) then (s.setRetry (s.retry + 1)).finishNext .timeout SENTINEL
  else s.setRetry (s.retry + 1)

/-- R156: the poll of an empty queue. It acts when a NEXT is in progress and no byte is available. -/
def execCurEmpty (s : State) : Out :=
  if s.reads .poll && s.rxq.isEmpty then .next s.emptyPoll else .refused .outOfContext

/-! ## HAS_NEXT -/

/-- The loop of R141 over the queue `q` of the state: it drains control tokens from the head and answers. Each pass answers or consumes the
head of `q`. -/
def hasNextLoop : List Byte → State → State
  | [], s =>
    if !s.msgOpen then s.respondCursor .closed (boolData false)
    else s.respondCursor .ok (boolData false)
  | b :: q, s =>
    if !s.msgOpen then s.respondCursor .closed (boolData false)
    else if !s.escPending then
      if b != s.cfg.esc then s.respondCursor .ok (boolData true)
      else hasNextLoop q (s.rxRead.setEsc true)
    else if b == s.cfg.literal then s.respondCursor .ok (boolData true)
    else if b == END then hasNextLoop q (s.rxRead.setEsc false).closeMessage
    else if b == START then hasNextLoop q (s.rxRead.setEsc false).cutMessage
    else hasNextLoop q (s.rxRead.setEsc false)

/-- HAS_NEXT once the port has taken it (R141, R143). -/
def State.hasNext (s : State) : State :=
  if s.rxState != .dispatching then s.respondCursor .notOpen (boolData false) else hasNextLoop s.rxq s

/-- R141, R143, R144. -/
def execHasNext (s : State) : Out := onCommand s State.hasNext

/-! ## NEXT, the start -/

/-- NextStart (R146, R147, R148). -/
def State.nextStart (s : State) : State :=
  if s.rxState != .dispatching then s.respondCursor .notOpen SENTINEL
  else if !s.msgOpen then s.respondCursor .closed SENTINEL
  else s.beginNext

/-- R146. -/
def execNext (s : State) : Out := onCommand s State.nextStart

/-! ## RETURN -/

/-- Return (R160, R161). -/
def State.handlerReturn (s : State) : State :=
  if s.rxState != .dispatching then s.respondCommand .notOpen
  else s.returnFromDispatch.respondCommand .ok

/-- R160. -/
def execRet (s : State) : Out := onCommand s State.handlerReturn

end Sys2Proof.Machine
end

