-- ==== Sys2Proof/Machine/Encoder.lean ====
section
/-! DEFINITION. The send path (42_encoder.md, R180 to R184), the gathering of SEND_BUF's data beats (R86) and the reserved words (R91). -/

namespace Sys2Proof.Machine

/-- BeginSend (R180). -/
def State.beginSend (s : State) (t : Byte) : State :=
  if s.txOpen then s.respondCommand .sendOpen
  else ((s.setTxOpen true).txWrite (openBytes s.cfg t)).respondCommand .ok

/-- R180. -/
def execBeginSend (t : Byte) (s : State) : Out := onCommand s fun s => s.beginSend t

/-- SendByte (R181). -/
def State.sendByte (s : State) (b : Byte) : State :=
  if !s.txOpen then s.respondCommand .noSend
  else (s.txWrite (enc s.cfg b)).respondCommand .ok

/-- R181. -/
def execSendByte (b : Byte) (s : State) : Out := onCommand s fun s => s.sendByte b

/-- EndSend (R182). -/
def State.endSend (s : State) : State :=
  if !s.txOpen then s.respondCommand .noSend
  else ((s.txWrite (closeBytes s.cfg)).setTxOpen false).respondCommand .ok

/-- R182. -/
def execEndSend (s : State) : Out := onCommand s State.endSend

/-- SendBuf(t, bs): a whole frame in one transition, or nothing when a send is open (R184). -/
def State.sendWhole (s : State) (t : Byte) (bs : List Byte) : State :=
  if s.txOpen then s.respondCommand .sendOpen
  else (s.txWrite (frame s.cfg t bs)).respondCommand .ok

/-- R183: Send(t) writes the same bytes as SEND_BUF with no bytes (R184's corner case). -/
def execSend (t : Byte) (s : State) : Out := onCommand s fun s => s.sendWhole t []

/-- A SEND_BUF header: with no bytes it executes at once, otherwise the gather begins (R86). -/
def State.sendBufHeader (s : State) (t : Byte) (len : BitVec 16) : State :=
  if len = 0#16 then s.sendWhole t []
  else s.setCollect (some { type := t, remaining := len.toNat, bytes := [] })

/-- R85, R86, R184. -/
def execSendBuf (t : Byte) (len : BitVec 16) (s : State) : Out := onCommand s fun s => s.sendBufHeader t len

/-- One data beat (R86): the last one executes the SEND_BUF, a stray one is ILLEGAL. -/
def State.sendBufBeat (s : State) (b : Byte) : State :=
  match s.collect with
  | none => s.respondCommand .illegal
  | some c =>
    if c.remaining - 1 = 0 then (s.setCollect none).sendWhole c.type (c.bytes ++ [b])
    else s.setCollect (some { c with remaining := c.remaining - 1, bytes := c.bytes ++ [b] })

/-- R86. -/
def execSendBufData (b : Byte) (s : State) : Out := onDataBeat s fun s => s.sendBufBeat b

/-- R91: a reserved word answers ILLEGAL and changes nothing else. Its opcode has no effect. -/
def execReserved (_op : Byte) (s : State) : Out := onCommand s fun s => s.respondCommand .illegal

end Sys2Proof.Machine
end

