-- ==== Sys2Proof/Machine/Engine.lean ====
section
/-! DEFINITION. The receive engine's rows (40_decoder.md, R103 to R114). -/

namespace Sys2Proof.Machine

/-! ## IDLE -/

/-- R103: the byte is discarded. -/
def execRxIdleOrd (d : Byte) (s : State) : Out :=
  onToken .idle false d (d != s.cfg.esc) s fun s => s

/-- R104. -/
def execRxIdleEsc (s : State) : Out :=
  onToken .idle false s.cfg.esc true s fun s => s.setEsc true

/-- R105: an ESC END with no open message closes nothing. -/
def execRxIdleEscEnd (s : State) : Out :=
  onToken .idle true END true s fun s => s.setEsc false

/-- R106: frame-start detection. -/
def execRxIdleEscStart (s : State) : Out :=
  onToken .idle true START true s fun s => (s.setEsc false).setRxState .awaitType

/-- R107: nothing is delivered. -/
def execRxIdleEscLiteral (s : State) : Out :=
  onToken .idle true s.cfg.literal true s fun s => s.setEsc false

/-- R108: a malformed pair is dropped. -/
def execRxIdleEscOther (c : Byte) (s : State) : Out :=
  onToken .idle true c (isMalformed s.cfg c) s fun s => s.setEsc false

/-! ## AWAIT_TYPE -/

/-- R109. -/
def execRxAwaitType (t : Byte) (s : State) : Out :=
  onToken .awaitType false t (t != s.cfg.esc) s fun s => s.typeDecoded t

/-- R110 (C1: the Type is escape-decoded). -/
def execRxAwaitEsc (s : State) : Out :=
  onToken .awaitType false s.cfg.esc true s fun s => s.setEsc true

/-- R111: the escaped Type is ESC. -/
def execRxAwaitEscLiteral (s : State) : Out :=
  onToken .awaitType true s.cfg.literal true s fun s => (s.setEsc false).typeDecoded s.cfg.esc

/-- R112: a repeated start stays in AWAIT_TYPE. -/
def execRxAwaitEscStart (s : State) : Out :=
  onToken .awaitType true START true s fun s => s.setEsc false

/-- R113: a frame with no Type. -/
def execRxAwaitEscEnd (s : State) : Out :=
  onToken .awaitType true END true s fun s => (s.setEsc false).setRxState .idle

/-- R114: a malformed pair abandons the frame. -/
def execRxAwaitEscOther (c : Byte) (s : State) : Out :=
  onToken .awaitType true c (isMalformed s.cfg c) s fun s => (s.setEsc false).setRxState .idle

end Sys2Proof.Machine
end

