-- ==== Sys2Proof/Machine/Table.lean ====
section
/-! DEFINITION. The handler table's command (43_handler_table.md). -/

namespace Sys2Proof.Machine

/-- Register (R210, R211). -/
def State.registerType (s : State) (t : Byte) (h : HandlerId) : State :=
  if !inRange s.cfg t then s.respondCommand .range
  else (s.tableWrite t h).respondCommand .ok

/-- R210. -/
def execRegister (t : Byte) (h : HandlerId) (s : State) : Out := onCommand s fun s => s.registerType t h

end Sys2Proof.Machine
end

