-- ==== Sys2Proof/Machine/Dispatch.lean ====
section
/-! DEFINITION. One arm per instruction, each one direct call of its meaning. -/

namespace Sys2Proof.Machine

def exec (i : Instr) (s : State) : Host.Outcome State Fault Refusal :=
  match i with
  | .rxIdleOrd d => Sys2Proof.Machine.execRxIdleOrd d s
  | .rxIdleEsc => Sys2Proof.Machine.execRxIdleEsc s
  | .rxIdleEscEnd => Sys2Proof.Machine.execRxIdleEscEnd s
  | .rxIdleEscStart => Sys2Proof.Machine.execRxIdleEscStart s
  | .rxIdleEscLiteral => Sys2Proof.Machine.execRxIdleEscLiteral s
  | .rxIdleEscOther c => Sys2Proof.Machine.execRxIdleEscOther c s
  | .rxAwaitType t => Sys2Proof.Machine.execRxAwaitType t s
  | .rxAwaitEsc => Sys2Proof.Machine.execRxAwaitEsc s
  | .rxAwaitEscLiteral => Sys2Proof.Machine.execRxAwaitEscLiteral s
  | .rxAwaitEscStart => Sys2Proof.Machine.execRxAwaitEscStart s
  | .rxAwaitEscEnd => Sys2Proof.Machine.execRxAwaitEscEnd s
  | .rxAwaitEscOther c => Sys2Proof.Machine.execRxAwaitEscOther c s
  | .curOrd d => Sys2Proof.Machine.execCurOrd d s
  | .curEsc => Sys2Proof.Machine.execCurEsc s
  | .curEscLiteral => Sys2Proof.Machine.execCurEscLiteral s
  | .curEscStart => Sys2Proof.Machine.execCurEscStart s
  | .curEscOther c => Sys2Proof.Machine.execCurEscOther c s
  | .curEscEnd => Sys2Proof.Machine.execCurEscEnd s
  | .curEmpty => Sys2Proof.Machine.execCurEmpty s
  | .beginSend t => Sys2Proof.Machine.execBeginSend t s
  | .sendByte b => Sys2Proof.Machine.execSendByte b s
  | .endSend => Sys2Proof.Machine.execEndSend s
  | .send t => Sys2Proof.Machine.execSend t s
  | .sendBuf t len => Sys2Proof.Machine.execSendBuf t len s
  | .sendBufData b => Sys2Proof.Machine.execSendBufData b s
  | .register t hid => Sys2Proof.Machine.execRegister t hid s
  | .hasNext => Sys2Proof.Machine.execHasNext s
  | .next => Sys2Proof.Machine.execNext s
  | .ret => Sys2Proof.Machine.execRet s
  | .reserved op => Sys2Proof.Machine.execReserved op s

end Sys2Proof.Machine
end

