-- ==== Sys2Proof/Machine/Fetch.lean ====
section
/-! DEFINITION. Where each agent's next instruction comes from: the RX queue for the receive engine and for a NEXT poll, the command channel for
the host; and where a beat must lie so that the next step runs it. -/

namespace Sys2Proof.Machine

/-- The receive engine's step is enabled iff rx_state is IDLE or AWAIT_TYPE and a byte is available (R100, R101). The rule it applies does RxRead. -/
def State.fetchEngine (s : State) : Option Beat :=
  match s.rxState, s.rxq with
  | .idle, b :: _ => some (.byte .idle s.escPending b)
  | .awaitType, b :: _ => some (.byte .awaitType s.escPending b)
  | .idle, [] => none
  | .awaitType, [] => none
  | .dispatching, _ => none

/-- A NEXT poll is enabled iff next_busy (R149); it finds the queue empty or not. -/
def State.fetchPoll (s : State) : Option Beat :=
  if s.nextBusy then
    match s.rxq with
    | [] => some .empty
    | b :: _ => some (.byte .poll s.escPending b)
  else none

/-- The command port takes the host's next word, unless a NEXT is in progress (R27). -/
def State.fetchHost (s : State) : Option Beat :=
  if s.nextBusy then none else s.cmdq.head?.map Beat.word

/-- The word the port has taken leaves the host's list. -/
def State.takeWord (s : State) : State := { s with cmdq := s.cmdq.tail }

/-- The beat at the front of a move's own source, and the state in which the instruction it stands for runs; none where the move has no enabled step. -/
def State.fetch (s : State) : Move → Option (Beat × State)
  | .engine => s.fetchEngine.map fun b => (b, s)
  | .poll => s.fetchPoll.map fun b => (b, s)
  | .host => s.fetchHost.map fun b => (b, s.takeWord)
  | .arrive _ => none
  | .reset => none

/-- What a move does that runs no instruction: the transport's append (R33), reset (R260), and nothing where an agent has no enabled step (log 2). -/
def State.outside (s : State) : Move → State
  | .arrive bs => s.rxAppend bs
  | .reset => s.resetBlock
  | .engine => s
  | .poll => s
  | .host => s

/-- The rx_state in which an engine reader reads. -/
def readerState (s : State) : Reader → RxState
  | .idle => .idle
  | .awaitType => .awaitType
  | .poll => s.rxState

/-- `s` with a beat laid where the very next step fetches it, and that step scheduled: a byte at the head of the RX queue in the context it is
read in, an empty queue under a NEXT in progress, a word at the front of the host's list with the port free. -/
def State.place (s : State) : Beat → State
  | .byte .poll esc b =>
    { s with nextBusy := true, escPending := esc, rxq := b :: s.rxq, sched := .poll :: s.sched }
  | .byte r esc b =>
    { s with rxState := readerState s r, escPending := esc, rxq := b :: s.rxq, sched := .engine :: s.sched }
  | .empty => { s with nextBusy := true, rxq := [], sched := .poll :: s.sched }
  | .word w => { s with nextBusy := false, cmdq := w :: s.cmdq, sched := .host :: s.sched }

end Sys2Proof.Machine
end

