-- ==== Sys2Proof/Machine/Step.lean ====
section
/-! DEFINITION. One step: the next move of the schedule, which runs the instruction it fetches. -/

namespace Sys2Proof.Machine

/-- One atomic transition of the total order (R60, R241): the first move of the schedule. With no move left, the machine waits and every field
keeps its value (R250). A configuration that R7 to R11 do not admit is refused (R263, I2). -/
def step (s : State) : Host.Outcome State Fault Refusal :=
  if s.cfg.wf then
    match s.sched with
    | [] => .next s
    | m :: ms =>
      match ({ s with sched := ms } : State).fetch m with
      | some (beat, t) => exec (decode s.cfg beat) t
      | none => .next (({ s with sched := ms } : State).outside m)
  else .refused .configNotAdmitted

/-- `s` with a table row's word placed where the next step fetches it; unchanged where the row's bits are no beat. -/
def State.withFetchWord (s : State) (nbits w : Nat) : State :=
  match tableBeat nbits w with
  | some beat => s.place beat
  | none => s

end Sys2Proof.Machine
end

