-- ==== Sys2Proof/Safety.lean ====
section
/-! DEFINITION. The terms claims are stated in: the invariant of 10_state.md section 8, driving the machine through a schedule, the spec's own
pseudocode of an engine step (R102) and of a NEXT poll (R149) as single functions, the payload still to be delivered, the shape of the TX log
(R57, R188), and the end of a run (R276). -/

namespace Sys2Proof.Machine

/-- R34, with the bounds of R28 and R86, the form of the table (R30) and an admitted configuration (R7 to R11). -/
structure Inv (s : State) : Prop where
  configAdmitted : s.cfg.wf = true
  tableForm : s.tableWf = true
  openOnlyInDispatch : s.msgOpen = true → s.rxState = .dispatching
  handlerIffDispatch : s.rxState = .dispatching ↔ s.curHandler.isSome = true
  typeIffDispatch : s.rxState = .dispatching ↔ s.curType.isSome = true
  busyOnlyInOpenMessage : s.nextBusy = true → s.rxState = .dispatching ∧ s.msgOpen = true
  retryOnlyWhileBusy : s.retry ≠ 0 → s.nextBusy = true
  resumeOnlyAfterCut : s.afterReturn = .awaitType → s.rxState = .dispatching ∧ s.msgOpen = false
  retryBelowBudget : s.retry < s.cfg.retryBudget
  gatherBounds : ∀ c, s.collect = some c → 1 ≤ c.remaining ∧ c.bytes.length + c.remaining ≤ 65535

/-- The machine driven from `s` by a schedule of its own: one step for each move. -/
def drive (moves : List Move) (s : State) : Out :=
  Sys2Proof.core.run moves.length { s with sched := moves }

/-! ## The spec's pseudocode as single functions -/

/-- TypeDecoded(t) of R102. -/
def typeDecodedSpec (s : State) (t : Byte) : State :=
  match s.lookup t with
  | some h =>
    { s with
      rxState := .dispatching, msgOpen := true, curHandler := some h, curType := some t, afterReturn := .idle
      disp := s.disp ++ [(h, t)] }
  | none => { s with rxState := .idle }

/-- RxStep() of R102 on the byte that RxRead returned. -/
def rxStepSpec (s : State) (b : Byte) : State :=
  match s.rxState, s.escPending with
  | .idle, false => if b = s.cfg.esc then { s with escPending := true } else s
  | .idle, true =>
    if b = START then { s with escPending := false, rxState := .awaitType }
    else { s with escPending := false }
  | .awaitType, false =>
    if b = s.cfg.esc then { s with escPending := true } else typeDecodedSpec s b
  | .awaitType, true =>
    if b = s.cfg.literal then typeDecodedSpec { s with escPending := false } s.cfg.esc
    else if b = START then { s with escPending := false }
    else { s with escPending := false, rxState := .idle }
  | .dispatching, _ => s

/-- Finish(ok, s, d) of R149. -/
def finishSpec (s : State) (st : Status) (d : Byte) : State :=
  { s with nextBusy := false, retry := 0, rsp := s.rsp ++ [⟨true, st, d⟩] }

/-- NextPoll() of R149. -/
def nextPollSpec (s : State) : State :=
  match s.rxq with
  | b :: q =>
    if s.escPending then
      if b = s.cfg.literal then finishSpec { s with rxq := q, escPending := false } .ok s.cfg.esc
      else if b = START then
        finishSpec { s with rxq := q, escPending := false, msgOpen := false, afterReturn := .awaitType } .closed SENTINEL
      else if b = END then finishSpec { s with rxq := q, escPending := false, msgOpen := false } .closed SENTINEL
      else { s with rxq := q, retry := 0, escPending := false }
    else if b = s.cfg.esc then { s with rxq := q, retry := 0, escPending := true }
    else finishSpec { s with rxq := q } .ok b
  | [] =>
    if s.retry + 1 = s.cfg.retryBudget then finishSpec s .timeout SENTINEL
    else { s with retry := s.retry + 1 }

/-! ## The payload still to be delivered -/

/-- The data bytes that a byte sequence holds for the cursor before the message closes, read from a token boundary or from inside an escape pair
(R74, R149). -/
def payloadBytes (cfg : Config) : Bool → List Byte → List Byte
  | _, [] => []
  | false, b :: q => if b = cfg.esc then payloadBytes cfg true q else b :: payloadBytes cfg false q
  | true, c :: q =>
    if c = cfg.literal then cfg.esc :: payloadBytes cfg false q
    else if c = START ∨ c = END then []
    else payloadBytes cfg false q

/-- What is left for NEXT to deliver from the bytes that have arrived. -/
def State.payload (s : State) : List Byte :=
  if s.msgOpen then payloadBytes s.cfg s.escPending s.rxq else []

/-! ## The TX log -/

/-- Every token of the TX log is one the encoder may write, and the log ends at a token boundary (R57). -/
def TxAligned (s : State) : Prop :=
  (tokenize s.cfg false s.txlog).2 = false ∧
    ∀ k ∈ (tokenize s.cfg false s.txlog).1, ∀ c, k ≠ .bad c

/-- The TX log is whole frames one after another and, while a send is open, one frame begun and not closed (R188). -/
def TxFrames (s : State) : Prop :=
  ∃ fs : List (Byte × List Byte), ∃ rest : List Byte,
    s.txlog = fs.flatMap (fun f => frame s.cfg f.1 f.2) ++ rest ∧
    (s.txOpen = false → rest = []) ∧
    (s.txOpen = true → ∃ (t : Byte) (ps : List Byte), rest = openBytes s.cfg t ++ ps.flatMap (enc s.cfg))

/-- What SEND_BUF(t, bs) does once its bytes are gathered (R184). -/
def sendBufSpec (s : State) (t : Byte) (bs : List Byte) : State :=
  if s.txOpen then { s with rsp := s.rsp ++ [⟨false, .sendOpen, 0x00#8⟩] }
  else
    { s with
      txlog := s.txlog ++ ([s.cfg.esc, START] ++ enc s.cfg t ++ bs.flatMap (enc s.cfg) ++ [s.cfg.esc, END])
      rsp := s.rsp ++ [⟨true, .ok, 0x00#8⟩] }

/-! ## The two halves of the block (R64, R189) -/

/-- `s` with the receive half of `r`. -/
def State.withReceive (s r : State) : State :=
  { s with
    rxState := r.rxState, escPending := r.escPending, msgOpen := r.msgOpen, curHandler := r.curHandler
    curType := r.curType, afterReturn := r.afterReturn, retry := r.retry, table := r.table
    rxq := r.rxq, disp := r.disp }

/-- `s` with the send half of `r`. -/
def State.withSend (s r : State) : State := { s with txOpen := r.txOpen, txlog := r.txlog }

/-- A function applied to the next state of an outcome. -/
def mapNext (f : State → State) : Out → Out
  | .next s => .next (f s)
  | .fault r => .fault r
  | .refused r => .refused r

/-! ## Command words, and the end of a run -/

/-- The instructions of the command channel (R80, R91). -/
def isCommand : Instr → Bool
  | .beginSend _ | .sendByte _ | .endSend | .send _ | .sendBuf _ _ | .sendBufData _ => true
  | .register _ _ | .hasNext | .next | .ret | .reserved _ => true
  | _ => false

/-- The rows of a NEXT poll (R149). -/
def isPollRow : Instr → Bool
  | .curOrd _ | .curEsc | .curEscLiteral | .curEscStart | .curEscOther _ | .curEscEnd | .curEmpty => true
  | _ => false

/-- One response `r` was added, with the ok bit of a cursor command (R92). -/
def AnswersCursor (s u : State) (r : Response) : Prop :=
  u.rsp = s.rsp ++ [r] ∧ (r.ok = true ↔ r.status = .ok ∨ r.status = .closed ∨ r.status = .timeout)

/-- One response was added, with the ok bit and the data of a command that is no cursor command (R92). -/
def AnswersCommand (s u : State) : Prop :=
  ∃ r, u.rsp = s.rsp ++ [r] ∧ r.data = 0x00#8 ∧ (r.ok = true ↔ r.status = .ok)

/-- The commands of the encoder (42_encoder.md). -/
def isEncoderCommand : Instr → Bool
  | .beginSend _ | .sendByte _ | .endSend | .send _ | .sendBuf _ _ | .sendBufData _ => true
  | _ => false

/-- The word of a command that a statement puts on the command port. -/
def commandWord (cfg : Config) (i : Instr) : CmdWord :=
  match encode cfg i with
  | .word w => w
  | .byte _ _ _ => 0#32
  | .empty => 0#32

/-- The end of a run (R276). -/
def State.ended (s : State) : Prop :=
  s.cmdq = [] ∧ s.collect = none ∧ s.nextBusy = false ∧ s.rxState ≠ .dispatching ∧ s.rxq = []

end Sys2Proof.Machine
end

