-- ==== Sys2Proof/Certificates/Slice0/Obligations.lean ====
section
/-! DEFINITION. The statements for the provers. They quantify over every configuration (`s.cfg`) and every schedule, and none rests on a reset
value the model chose. -/

open Sys2Proof Sys2Proof.Machine

/-! ## Encodings -/

/-- R81 to R84, R87 to R90, R96: a command word is recognised by its match and mask, and its operands are fields A and B. -/
def Obligations.CommandWordsDecodeByMatchAndMask : Prop :=
  ∀ (cfg : Config) (w : CmdWord),
    (w &&& 0xFF000000#32 = 0x01000000#32 → decode cfg (.word w) = .beginSend (w.extractLsb' 16 8)) ∧
    (w &&& 0xFF000000#32 = 0x02000000#32 → decode cfg (.word w) = .sendByte (w.extractLsb' 16 8)) ∧
    (w &&& 0xFF000000#32 = 0x03000000#32 → decode cfg (.word w) = .endSend) ∧
    (w &&& 0xFF000000#32 = 0x04000000#32 → decode cfg (.word w) = .send (w.extractLsb' 16 8)) ∧
    (w &&& 0xFF000000#32 = 0x05000000#32 →
      decode cfg (.word w) = .sendBuf (w.extractLsb' 16 8) (w.extractLsb' 0 16)) ∧
    (w &&& 0xFF000000#32 = 0x06000000#32 → decode cfg (.word w) = .sendBufData (w.extractLsb' 16 8)) ∧
    (w &&& 0xFF000000#32 = 0x10000000#32 →
      decode cfg (.word w) = .register (w.extractLsb' 16 8) (w.extractLsb' 0 16)) ∧
    (w &&& 0xFF000000#32 = 0x20000000#32 → decode cfg (.word w) = .hasNext) ∧
    (w &&& 0xFF000000#32 = 0x21000000#32 → decode cfg (.word w) = .next) ∧
    (w &&& 0xFF000000#32 = 0x22000000#32 → decode cfg (.word w) = .ret) ∧
    (w &&& 0xFF000000#32 ∉
        [0x01000000#32, 0x02000000#32, 0x03000000#32, 0x04000000#32, 0x05000000#32, 0x06000000#32,
         0x10000000#32, 0x20000000#32, 0x21000000#32, 0x22000000#32] →
      decode cfg (.word w) = .reserved (w.extractLsb' 24 8))

/-- Words and bytes written out from the spec's encodings (95_test_vectors.md, 30_encoding.md) decode to what they stand for, under RC1. -/
def Obligations.WrittenOutWordsDecode : Prop :=
  decode Config.rc1 (.word 0x01030000#32) = .beginSend 0x03#8 ∧
  decode Config.rc1 (.word 0x02AA0000#32) = .sendByte 0xAA#8 ∧
  decode Config.rc1 (.word 0x0312ABCD#32) = .endSend ∧
  decode Config.rc1 (.word 0x05030003#32) = .sendBuf 0x03#8 0x0003#16 ∧
  decode Config.rc1 (.word 0x10030101#32) = .register 0x03#8 0x0101#16 ∧
  decode Config.rc1 (.word 0x21000000#32) = .next ∧
  decode Config.rc1 (.word 0x23000000#32) = .reserved 0x23#8 ∧
  decode Config.rc1 (.byte .idle false 0xAA#8) = .rxIdleEsc ∧
  decode Config.rc1 (.byte .idle true 0xFF#8) = .rxIdleEscStart ∧
  decode Config.rc1 (.byte .awaitType false 0x03#8) = .rxAwaitType 0x03#8 ∧
  decode Config.rc1 (.byte .poll true 0x55#8) = .curEscLiteral ∧
  decode Config.rc1 (.byte .poll true 0x42#8) = .curEscOther 0x42#8

/-- Every well-formed instruction, with every operand its encoding admits, is what its own encoding decodes to. -/
def Obligations.DecodeOfEncodeIsTheInstruction : Prop :=
  ∀ (cfg : Config), cfg.wf = true → ∀ i : Instr, i.wf cfg = true → decode cfg (encode cfg i) = i

/-- The other direction: a byte in its context comes back whole, a command word comes back less the bits its command does not use (R80), and what
decoding gives is well formed. -/
def Obligations.EncodeOfDecodeIsTheBeat : Prop :=
  ∀ (cfg : Config),
    (∀ r e b, encode cfg (decode cfg (.byte r e b)) = .byte r e b) ∧
    (∀ w, encode cfg (decode cfg (.word w)) = .word (w &&& usedBits (decode cfg (.word w)))) ∧
    (∀ w, decode cfg (.word (w &&& usedBits (decode cfg (.word w)))) = decode cfg (.word w)) ∧
    (∀ beat, (decode cfg beat).wf cfg = true)

/-- R78. -/
def Obligations.TokensAreUniquelyDecodable : Prop :=
  ∀ (cfg : Config), cfg.wf = true →
    (∀ ks : List Token, (∀ k ∈ ks, k.wf cfg = true) →
      tokenize cfg false (ks.flatMap (Token.bytes cfg)) = (ks, false)) ∧
    (∀ vs : List Byte,
      (tokenize cfg false (vs.flatMap (enc cfg))).1.map (Token.data cfg) = vs.map some ∧
      (tokenize cfg false (vs.flatMap (enc cfg))).2 = false) ∧
    (∀ v u : Byte, enc cfg v = enc cfg u → v = u)

/-! ## The receive engine -/

/-- R100, R102: when the engine has a step, and that it is RxStep, applied to the byte RxRead returns. -/
def Obligations.EngineStepFollowsRxStep : Prop :=
  ∀ (s : State) (ms : List Move), s.cfg.wf = true →
    ((s.fetch .engine).isSome = true ↔ (s.rxState = .idle ∨ s.rxState = .awaitType) ∧ s.rxq ≠ []) ∧
    ∀ b q, s.rxState ≠ .dispatching → s.rxq = b :: q →
      step { s with sched := .engine :: ms } = .next { rxStepSpec { s with rxq := q } b with sched := ms }

/-- R103 to R108. -/
def Obligations.IdleTokensAct : Prop :=
  ∀ (s : State) (q : List Byte), s.rxState = .idle →
    (∀ d, d ≠ s.cfg.esc → s.escPending = false → s.rxq = d :: q →
      exec (.rxIdleOrd d) s = .next { s with rxq := q }) ∧
    (s.escPending = false → s.rxq = s.cfg.esc :: q →
      exec .rxIdleEsc s = .next { s with rxq := q, escPending := true }) ∧
    (s.escPending = true → s.rxq = END :: q →
      exec .rxIdleEscEnd s = .next { s with rxq := q, escPending := false }) ∧
    (s.escPending = true → s.rxq = START :: q →
      exec .rxIdleEscStart s = .next { s with rxq := q, escPending := false, rxState := .awaitType }) ∧
    (s.escPending = true → s.rxq = s.cfg.literal :: q →
      exec .rxIdleEscLiteral s = .next { s with rxq := q, escPending := false }) ∧
    (∀ c, c ≠ START → c ≠ END → c ≠ s.cfg.literal → s.escPending = true → s.rxq = c :: q →
      exec (.rxIdleEscOther c) s = .next { s with rxq := q, escPending := false })

/-- R109, R111, R121, R122, R212: a decoded Type dispatches on a hit and returns to IDLE on a miss, be it out of range or an unset slot. -/
def Obligations.TypeTokensDispatchOrMiss : Prop :=
  ∀ (s : State) (q : List Byte), s.rxState = .awaitType →
    (∀ t, t ≠ s.cfg.esc → s.escPending = false → s.rxq = t :: q →
      (∀ h, t.toNat < s.cfg.nTypes → s.table[t.toNat]? = some (some h) →
        exec (.rxAwaitType t) s = .next
          { s with
            rxq := q, rxState := .dispatching, msgOpen := true, curHandler := some h, curType := some t
            afterReturn := .idle, disp := s.disp ++ [(h, t)] }) ∧
      (s.cfg.nTypes ≤ t.toNat ∨ s.table[t.toNat]? = some none →
        exec (.rxAwaitType t) s = .next { s with rxq := q, rxState := .idle })) ∧
    (s.escPending = true → s.rxq = s.cfg.literal :: q →
      (∀ h, s.cfg.esc.toNat < s.cfg.nTypes → s.table[s.cfg.esc.toNat]? = some (some h) →
        exec .rxAwaitEscLiteral s = .next
          { s with
            rxq := q, escPending := false, rxState := .dispatching, msgOpen := true, curHandler := some h
            curType := some s.cfg.esc, afterReturn := .idle, disp := s.disp ++ [(h, s.cfg.esc)] }) ∧
      (s.cfg.nTypes ≤ s.cfg.esc.toNat ∨ s.table[s.cfg.esc.toNat]? = some none →
        exec .rxAwaitEscLiteral s = .next { s with rxq := q, escPending := false, rxState := .idle }))

/-- R110, R112, R113, R114. -/
def Obligations.AwaitTypeControlTokensAct : Prop :=
  ∀ (s : State) (q : List Byte), s.rxState = .awaitType →
    (s.escPending = false → s.rxq = s.cfg.esc :: q →
      exec .rxAwaitEsc s = .next { s with rxq := q, escPending := true }) ∧
    (s.escPending = true → s.rxq = START :: q →
      exec .rxAwaitEscStart s = .next { s with rxq := q, escPending := false }) ∧
    (s.escPending = true → s.rxq = END :: q →
      exec .rxAwaitEscEnd s = .next { s with rxq := q, escPending := false, rxState := .idle }) ∧
    (∀ c, c ≠ START → c ≠ END → c ≠ s.cfg.literal → s.escPending = true → s.rxq = c :: q →
      exec (.rxAwaitEscOther c) s = .next { s with rxq := q, escPending := false, rxState := .idle })

/-- R124. That engine turns inside the dispatch are used up without a step is the model's choice (log 2). -/
def Obligations.FrameDispatchesExactlyOnce : Prop :=
  (∀ (s : State) (t : Byte) (h : HandlerId) (q : List Byte),
    s.cfg.wf = true → s.rxState ≠ .dispatching → s.escPending = false → s.lookup t = some h →
    s.rxq = openBytes s.cfg t ++ q →
    (∀ n, n < (openBytes s.cfg t).length →
      ∃ u, drive (List.replicate n .engine) s = .next u ∧ u.disp = s.disp) ∧
    (∀ k, ∃ u, drive (List.replicate ((openBytes s.cfg t).length + k) .engine) s = .next u ∧
      u.disp = s.disp ++ [(h, t)] ∧ u.rxState = .dispatching ∧ u.rxq = q)) ∧
  (∀ (s u : State), step s = .next u → u.disp ≠ s.disp →
    ∃ ms b q t h, s.sched = .engine :: ms ∧ s.rxq = b :: q ∧
      (decode s.cfg (.byte .awaitType s.escPending b) = .rxAwaitType t ∨
        decode s.cfg (.byte .awaitType s.escPending b) = .rxAwaitEscLiteral ∧ t = s.cfg.esc) ∧
      s.rxState = .awaitType ∧ s.lookup t = some h ∧ u.disp = s.disp ++ [(h, t)])

/-- R123: what follows a missed Type in a well-formed frame is consumed without effect, and the engine ends in IDLE at the next frame boundary. -/
def Obligations.MissedFrameIsSkipped : Prop :=
  ∀ (s : State) (t : Byte) (ps q : List Byte),
    s.cfg.wf = true → s.rxState = .awaitType → s.escPending = false → s.lookup t = none →
    s.rxq = enc s.cfg t ++ ps.flatMap (enc s.cfg) ++ closeBytes s.cfg ++ q →
    drive (List.replicate (enc s.cfg t ++ ps.flatMap (enc s.cfg) ++ closeBytes s.cfg).length .engine) s =
      .next { s with rxState := .idle, rxq := q, sched := [] }

/-- R125: from any token boundary outside a dispatch, ESC START leads to AWAIT_TYPE, and the frame that begins there is decoded. -/
def Obligations.EscStartResynchronises : Prop :=
  ∀ (s : State) (q : List Byte),
    s.cfg.wf = true → s.rxState ≠ .dispatching → s.escPending = false →
    (s.rxq = s.cfg.esc :: START :: q →
      drive [.engine, .engine] s = .next { s with rxState := .awaitType, rxq := q, sched := [] }) ∧
    (∀ t h, s.lookup t = some h → s.rxq = openBytes s.cfg t ++ q →
      drive (List.replicate (openBytes s.cfg t).length .engine) s = .next
        { s with
          rxState := .dispatching, msgOpen := true, curHandler := some h, curType := some t, afterReturn := .idle
          disp := s.disp ++ [(h, t)], rxq := q, sched := [] })

/-- R231: a malformed pair leaves no trace but the bytes that are gone, and in AWAIT_TYPE the return to IDLE. -/
def Obligations.MalformedPairsAreSilent : Prop :=
  ∀ (s : State) (c : Byte) (q : List Byte),
    s.cfg.wf = true → c ≠ START → c ≠ END → c ≠ s.cfg.literal → s.escPending = false →
    s.rxq = s.cfg.esc :: c :: q →
    (s.rxState = .idle → drive [.engine, .engine] s = .next { s with rxq := q, sched := [] }) ∧
    (s.rxState = .awaitType →
      drive [.engine, .engine] s = .next { s with rxState := .idle, rxq := q, sched := [] }) ∧
    (s.nextBusy = true → drive [.poll, .poll] s = .next { s with retry := 0, rxq := q, sched := [] }) ∧
    (s.rxState = .dispatching → s.msgOpen = true → s.nextBusy = false →
      exec .hasNext s = exec .hasNext { s with rxq := q })

/-- R22, R56: after a byte is consumed, the flag says whether that byte was an ESC that began a token. -/
def Obligations.EscPendingTracksTokenStarts : Prop :=
  ∀ (s u : State) (m : Move) (ms : List Move) (b : Byte) (q : List Byte),
    s.rxq = b :: q →
    (m = .engine ∧ s.rxState ≠ .dispatching ∨ m = .poll ∧ s.nextBusy = true) →
    step { s with sched := m :: ms } = .next u →
    u.rxq = q ∧ (u.escPending = true ↔ s.escPending = false ∧ b = s.cfg.esc)

/-! ## The payload cursor -/

/-- R149: when a poll is enabled, and that it is NextPoll. -/
def Obligations.PollStepFollowsNextPoll : Prop :=
  ∀ (s : State) (ms : List Move), s.cfg.wf = true →
    ((s.fetch .poll).isSome = true ↔ s.nextBusy = true) ∧
    (s.nextBusy = true → step { s with sched := .poll :: ms } = .next { nextPollSpec s with sched := ms })

/-- R150, R152. -/
def Obligations.CursorTokensDeliver : Prop :=
  ∀ (s : State) (q : List Byte), s.nextBusy = true →
    (∀ d, d ≠ s.cfg.esc → s.escPending = false → s.rxq = d :: q →
      exec (.curOrd d) s = .next
        { s with rxq := q, retry := 0, nextBusy := false, rsp := s.rsp ++ [⟨true, .ok, d⟩] }) ∧
    (s.escPending = true → s.rxq = s.cfg.literal :: q →
      exec .curEscLiteral s = .next
        { s with
          rxq := q, escPending := false, retry := 0, nextBusy := false
          rsp := s.rsp ++ [⟨true, .ok, s.cfg.esc⟩] })

/-- R151, R154. -/
def Obligations.CursorTokensKeepPolling : Prop :=
  ∀ (s : State) (q : List Byte), s.nextBusy = true →
    (s.escPending = false → s.rxq = s.cfg.esc :: q →
      exec .curEsc s = .next { s with rxq := q, escPending := true, retry := 0 }) ∧
    (∀ c, c ≠ START → c ≠ END → c ≠ s.cfg.literal → s.escPending = true → s.rxq = c :: q →
      exec (.curEscOther c) s = .next { s with rxq := q, escPending := false, retry := 0 })

/-- R153, R155. -/
def Obligations.CursorTokensClose : Prop :=
  ∀ (s : State) (q : List Byte), s.nextBusy = true → s.escPending = true →
    (s.rxq = START :: q →
      exec .curEscStart s = .next
        { s with
          rxq := q, escPending := false, msgOpen := false, afterReturn := .awaitType, retry := 0
          nextBusy := false, rsp := s.rsp ++ [⟨true, .closed, SENTINEL⟩] }) ∧
    (s.rxq = END :: q →
      exec .curEscEnd s = .next
        { s with
          rxq := q, escPending := false, msgOpen := false, retry := 0, nextBusy := false
          rsp := s.rsp ++ [⟨true, .closed, SENTINEL⟩] })

/-- R156. -/
def Obligations.EmptyPollCountsOrTimesOut : Prop :=
  ∀ (s : State), s.nextBusy = true → s.rxq = [] →
    (s.retry + 1 ≠ s.cfg.retryBudget → exec .curEmpty s = .next { s with retry := s.retry + 1 }) ∧
    (s.retry + 1 = s.cfg.retryBudget →
      exec .curEmpty s = .next
        { s with retry := 0, nextBusy := false, rsp := s.rsp ++ [⟨true, .timeout, SENTINEL⟩] })

/-- R236: RETRY_BUDGET consecutive empty polls within one NEXT end it with TIMEOUT, and nothing else has changed; fewer do not. -/
def Obligations.TimeoutAfterRetryBudget : Prop :=
  ∀ (s : State), s.cfg.wf = true → s.nextBusy = true → s.retry = 0 → s.rxq = [] →
    (∀ n, n < s.cfg.retryBudget →
      drive (List.replicate n .poll) s = .next { s with retry := n, sched := [] }) ∧
    drive (List.replicate s.cfg.retryBudget .poll) s = .next
      { s with nextBusy := false, rsp := s.rsp ++ [⟨true, .timeout, SENTINEL⟩], sched := [] }

/-- R141, R143, R144: the answers, and the equations of the loop, which leave HAS_NEXT no other behaviour. -/
def Obligations.HasNextFollowsItsLoop : Prop :=
  ∀ (s : State), s.cfg.wf = true → s.nextBusy = false → s.collect = none →
    (∃ u, exec .hasNext s = .next u) ∧
    (s.rxState ≠ .dispatching →
      exec .hasNext s = .next { s with rsp := s.rsp ++ [⟨false, .notOpen, 0x00#8⟩] }) ∧
    (s.rxState = .dispatching → s.msgOpen = false →
      exec .hasNext s = .next { s with rsp := s.rsp ++ [⟨true, .closed, 0x00#8⟩] }) ∧
    (s.rxState = .dispatching → s.msgOpen = true →
      (s.rxq = [] → exec .hasNext s = .next { s with rsp := s.rsp ++ [⟨true, .ok, 0x00#8⟩] }) ∧
      ∀ b q, s.rxq = b :: q →
        (s.escPending = false → b ≠ s.cfg.esc →
          exec .hasNext s = .next { s with rsp := s.rsp ++ [⟨true, .ok, 0x01#8⟩] }) ∧
        (s.escPending = false → b = s.cfg.esc →
          exec .hasNext s = exec .hasNext { s with rxq := q, escPending := true }) ∧
        (s.escPending = true → b = s.cfg.literal →
          exec .hasNext s = .next { s with rsp := s.rsp ++ [⟨true, .ok, 0x01#8⟩] }) ∧
        (s.escPending = true → b = END →
          exec .hasNext s = exec .hasNext { s with rxq := q, escPending := false, msgOpen := false }) ∧
        (s.escPending = true → b = START →
          exec .hasNext s =
            exec .hasNext { s with rxq := q, escPending := false, msgOpen := false, afterReturn := .awaitType }) ∧
        (s.escPending = true → b ≠ s.cfg.literal → b ≠ END → b ≠ START →
          exec .hasNext s = exec .hasNext { s with rxq := q, escPending := false }))

/-- R142: whatever control bytes HAS_NEXT consumes, what is left for NEXT to deliver is the same. -/
def Obligations.HasNextKeepsThePayload : Prop :=
  ∀ (s u : State), s.cfg.wf = true → exec .hasNext s = .next u → u.payload = s.payload

/-- R59: two HAS_NEXT back to back give the same answer, and the second consumes nothing. -/
def Obligations.HasNextTwiceGivesTheSameAnswer : Prop :=
  ∀ (s u : State), s.nextBusy = false → exec .hasNext s = .next u →
    ∃ r, u.rsp.getLast? = some r ∧ exec .hasNext u = .next { u with rsp := u.rsp ++ [r] }

/-- R146 (the start), R147, R148. -/
def Obligations.NextStartsOrAnswersAtOnce : Prop :=
  ∀ (s : State), s.nextBusy = false → s.collect = none →
    (s.rxState ≠ .dispatching →
      exec .next s = .next { s with rsp := s.rsp ++ [⟨false, .notOpen, 0x00#8⟩] }) ∧
    (s.rxState = .dispatching → s.msgOpen = false →
      exec .next s = .next { s with rsp := s.rsp ++ [⟨true, .closed, SENTINEL⟩] }) ∧
    (s.rxState = .dispatching → s.msgOpen = true →
      exec .next s = .next { s with nextBusy := true, retry := 0 })

/-- R149 to R157 together: a poll of an open message delivers the head of the payload, or ends the message when none is left, or changes no payload;
bytes that arrive only add to the payload's end. -/
def Obligations.PollsDeliverThePayloadInOrder : Prop :=
  ∀ (s : State), s.cfg.wf = true → s.nextBusy = true → s.msgOpen = true →
    (∀ ms u, step { s with sched := .poll :: ms } = .next u →
      (u.rsp = s.rsp ∧ u.nextBusy = true ∧ u.msgOpen = true ∧ u.payload = s.payload) ∨
      (∃ v, u.rsp = s.rsp ++ [⟨true, .ok, v⟩] ∧ u.nextBusy = false ∧ s.payload = v :: u.payload) ∨
      (u.rsp = s.rsp ++ [⟨true, .closed, SENTINEL⟩] ∧ u.nextBusy = false ∧ u.msgOpen = false ∧ s.payload = []) ∨
      (u.rsp = s.rsp ++ [⟨true, .timeout, SENTINEL⟩] ∧ u.nextBusy = false ∧ u.msgOpen = true ∧
        u.payload = s.payload)) ∧
    (∀ bs, ∃ more, ({ s with rxq := s.rxq ++ bs } : State).payload = s.payload ++ more)

/-- R160, R161. -/
def Obligations.ReturnEndsTheDispatch : Prop :=
  ∀ (s : State), s.nextBusy = false → s.collect = none →
    (s.rxState ≠ .dispatching →
      exec .ret s = .next { s with rsp := s.rsp ++ [⟨false, .notOpen, 0x00#8⟩] }) ∧
    (s.rxState = .dispatching →
      exec .ret s = .next
        { s with
          rxState := match s.afterReturn with
            | .idle => .idle
            | .awaitType => .awaitType
          msgOpen := false, curHandler := none, curType := none, afterReturn := .idle
          rsp := s.rsp ++ [⟨true, .ok, 0x00#8⟩] })

/-- R162: the rest of a message its handler did not read, also when RETURN falls inside an escape pair, is discarded up to and with ESC END. -/
def Obligations.EarlyReturnSkipsTheRest : Prop :=
  ∀ (s : State) (w : CmdWord) (ws : List CmdWord) (ps r q : List Byte),
    s.cfg.wf = true → s.rxState = .dispatching → s.nextBusy = false → s.collect = none →
    s.afterReturn = .idle → decode s.cfg (.word w) = .ret → s.cmdq = w :: ws → s.rxq = r ++ q →
    (s.escPending = false ∧ r = ps.flatMap (enc s.cfg) ++ closeBytes s.cfg ∨
      s.escPending = true ∧ r = s.cfg.literal :: (ps.flatMap (enc s.cfg) ++ closeBytes s.cfg) ∨
      s.escPending = true ∧ r = [END]) →
    drive (.host :: List.replicate r.length .engine) s = .next
      { s with
        rxState := .idle, escPending := false, msgOpen := false, curHandler := none, curType := none
        rxq := q, cmdq := ws, rsp := s.rsp ++ [⟨true, .ok, 0x00#8⟩], sched := [] }

/-- R163, R243: a dispatch is left by RETURN or by reset only, and while it lasts its handler and Type stay (R65). -/
def Obligations.DispatchIsLeftOnlyByReturnOrReset : Prop :=
  ∀ (s u : State), step s = .next u → s.rxState = .dispatching →
    (u.rxState = .dispatching ∧ u.curHandler = s.curHandler ∧ u.curType = s.curType) ∨
    (∃ ms, s.sched = .reset :: ms) ∨
    (∃ ms w ws, s.sched = .host :: ms ∧ s.cmdq = w :: ws ∧ s.nextBusy = false ∧
      decode s.cfg (.word w) = .ret ∧ u.rxState = s.afterReturn.rxState)

/-- R159: a frame on the RX queue comes back as its Type, in one dispatch, and its payload, byte by byte, whatever the payload holds. -/
def Obligations.FrameRoundTripsThroughTheCursor : Prop :=
  ∀ (s : State) (t : Byte) (h : HandlerId) (ps q : List Byte) (w : CmdWord) (ws : List CmdWord),
    s.cfg.wf = true → s.rxState ≠ .dispatching → s.escPending = false → s.nextBusy = false → s.collect = none →
    s.lookup t = some h → s.rxq = frame s.cfg t ps ++ q →
    decode s.cfg (.word w) = .next → s.cmdq = List.replicate (ps.length + 1) w ++ ws →
    drive
      (List.replicate (openBytes s.cfg t).length .engine ++
        ps.flatMap (fun p => .host :: List.replicate (enc s.cfg p).length .poll) ++ [.host, .poll, .poll]) s =
      .next
        { s with
          rxState := .dispatching, msgOpen := false, curHandler := some h, curType := some t, afterReturn := .idle
          retry := 0, rxq := q, disp := s.disp ++ [(h, t)]
          rsp := s.rsp ++ ps.map (fun p => ⟨true, .ok, p⟩) ++ [⟨true, .closed, SENTINEL⟩]
          cmdq := ws, sched := [] }

/-! ## The encoder -/

/-- R180. -/
def Obligations.BeginSendOpensAFrame : Prop :=
  ∀ (s : State) (t : Byte), s.nextBusy = false → s.collect = none →
    (s.txOpen = true → exec (.beginSend t) s = .next { s with rsp := s.rsp ++ [⟨false, .sendOpen, 0x00#8⟩] }) ∧
    (s.txOpen = false →
      exec (.beginSend t) s = .next
        { s with
          txOpen := true
          txlog := s.txlog ++ ([s.cfg.esc, START] ++ if t = s.cfg.esc then [s.cfg.esc, s.cfg.literal] else [t])
          rsp := s.rsp ++ [⟨true, .ok, 0x00#8⟩] })

/-- R181. -/
def Obligations.SendByteWritesEscaped : Prop :=
  ∀ (s : State) (b : Byte), s.nextBusy = false → s.collect = none →
    (s.txOpen = false → exec (.sendByte b) s = .next { s with rsp := s.rsp ++ [⟨false, .noSend, 0x00#8⟩] }) ∧
    (s.txOpen = true →
      exec (.sendByte b) s = .next
        { s with
          txlog := s.txlog ++ (if b = s.cfg.esc then [b, s.cfg.literal] else [b])
          rsp := s.rsp ++ [⟨true, .ok, 0x00#8⟩] })

/-- R182. -/
def Obligations.EndSendClosesTheFrame : Prop :=
  ∀ (s : State), s.nextBusy = false → s.collect = none →
    (s.txOpen = false → exec .endSend s = .next { s with rsp := s.rsp ++ [⟨false, .noSend, 0x00#8⟩] }) ∧
    (s.txOpen = true →
      exec .endSend s = .next
        { s with
          txOpen := false, txlog := s.txlog ++ [s.cfg.esc, END], rsp := s.rsp ++ [⟨true, .ok, 0x00#8⟩] })

/-- R183. -/
def Obligations.SendWritesAnEmptyFrame : Prop :=
  ∀ (s : State) (t : Byte), s.nextBusy = false → s.collect = none →
    (s.txOpen = true → exec (.send t) s = .next { s with rsp := s.rsp ++ [⟨false, .sendOpen, 0x00#8⟩] }) ∧
    (s.txOpen = false →
      exec (.send t) s = .next
        { s with
          txlog := s.txlog ++
            ([s.cfg.esc, START] ++ (if t = s.cfg.esc then [s.cfg.esc, s.cfg.literal] else [t]) ++ [s.cfg.esc, END])
          rsp := s.rsp ++ [⟨true, .ok, 0x00#8⟩] })

/-- R86, R184: the gathering of SEND_BUF, clause by clause; a gather that completes does what SEND_BUF(t, bs) does. -/
def Obligations.SendBufGathersItsBeats : Prop :=
  ∀ (s : State), s.nextBusy = false →
    (s.collect = none →
      (∀ t, exec (.sendBuf t 0#16) s = .next (sendBufSpec s t [])) ∧
      (∀ t len, len ≠ 0#16 →
        exec (.sendBuf t len) s = .next { s with collect := some ⟨t, len.toNat, []⟩ }) ∧
      (∀ b, exec (.sendBufData b) s = .next { s with rsp := s.rsp ++ [⟨false, .illegal, 0x00#8⟩] })) ∧
    (∀ t bs b, s.collect = some ⟨t, 1, bs⟩ →
      exec (.sendBufData b) s = .next (sendBufSpec { s with collect := none } t (bs ++ [b]))) ∧
    (∀ t n bs b, s.collect = some ⟨t, n + 2, bs⟩ →
      exec (.sendBufData b) s = .next { s with collect := some ⟨t, n + 1, bs ++ [b]⟩ }) ∧
    (∀ c i, s.collect = some c → isCommand i = true → (∀ b, i ≠ .sendBufData b) →
      exec i s = exec i { s with collect := none, rsp := s.rsp ++ [⟨false, .illegal, 0x00#8⟩] })

/-- R94: SEND and SEND_BUF leave what the composition of BEGIN_SEND, SEND_BYTE and END_SEND leaves, but for the number of responses; with a send
open they fail as a unit. -/
def Obligations.SendBufEqualsItsComposition : Prop :=
  ∀ (s : State) (t : Byte) (ps : List Byte),
    s.cfg.wf = true → s.nextBusy = false → s.collect = none → ps.length ≤ 65535 →
    (s.txOpen = false →
      drive (List.replicate (ps.length + 1) .host)
          { s with
            cmdq := commandWord s.cfg (.sendBuf t (BitVec.ofNat 16 ps.length)) ::
              ps.map (fun b => commandWord s.cfg (.sendBufData b)) } =
        .next
          { s with
            txlog := s.txlog ++ frame s.cfg t ps, rsp := s.rsp ++ [⟨true, .ok, 0x00#8⟩], cmdq := [], sched := [] } ∧
      drive (List.replicate (ps.length + 2) .host)
          { s with
            cmdq := commandWord s.cfg (.beginSend t) ::
              (ps.map (fun b => commandWord s.cfg (.sendByte b)) ++ [commandWord s.cfg .endSend]) } =
        .next
          { s with
            txlog := s.txlog ++ frame s.cfg t ps
            rsp := s.rsp ++ List.replicate (ps.length + 2) ⟨true, .ok, 0x00#8⟩, cmdq := [], sched := [] } ∧
      exec (.send t) s = .next
        { s with txlog := s.txlog ++ frame s.cfg t [], rsp := s.rsp ++ [⟨true, .ok, 0x00#8⟩] }) ∧
    (s.txOpen = true →
      drive (List.replicate (ps.length + 1) .host)
          { s with
            cmdq := commandWord s.cfg (.sendBuf t (BitVec.ofNat 16 ps.length)) ::
              ps.map (fun b => commandWord s.cfg (.sendBufData b)) } =
        .next { s with rsp := s.rsp ++ [⟨false, .sendOpen, 0x00#8⟩], cmdq := [], sched := [] } ∧
      exec (.send t) s = .next { s with rsp := s.rsp ++ [⟨false, .sendOpen, 0x00#8⟩] })

/-- R185. -/
def Obligations.EscapingLengths : Prop :=
  ∀ (s u : State), s.nextBusy = false →
    (∀ b, s.txOpen = true → exec (.sendByte b) s = .next u →
      u.txlog.length = s.txlog.length + if b = s.cfg.esc then 2 else 1) ∧
    (∀ t bs b, s.txOpen = false → s.collect = some ⟨t, 1, bs⟩ → exec (.sendBufData b) s = .next u →
      u.txlog.length = s.txlog.length + 4 + (enc s.cfg t).length +
        ((bs ++ [b]).map fun x => (enc s.cfg x).length).sum) ∧
    (∀ t, s.txOpen = false → exec (.sendBuf t 0#16) s = .next u →
      u.txlog.length = s.txlog.length + 4 + (enc s.cfg t).length)

/-- R187: in the wrong state of the one send guard, a send operation fails, writes nothing and leaves the guard. -/
def Obligations.SendGuardFailuresWriteNothing : Prop :=
  ∀ (s : State) (i : Instr), s.nextBusy = false →
    (s.txOpen = true ∧
        ((∃ t, i = .beginSend t) ∨ (∃ t, i = .send t) ∨ (∃ t, i = .sendBuf t 0#16) ∨
          (∃ b t bs, i = .sendBufData b ∧ s.collect = some ⟨t, 1, bs⟩)) ∨
      s.txOpen = false ∧ ((∃ b, i = .sendByte b) ∨ i = .endSend)) →
    ∃ u r, exec i s = .next u ∧ u.txlog = s.txlog ∧ u.txOpen = s.txOpen ∧
      u.rsp.getLast? = some r ∧ r.ok = false ∧ r.data = 0x00#8 ∧
      r.status = if s.txOpen then .sendOpen else .noSend

/-- R57: whatever the machine does, a reset in the middle of a frame included, the TX log stays cut at token boundaries and holds no malformed pair. -/
def Obligations.TxTokensStayAligned : Prop :=
  ∀ (s u : State), TxAligned s → step s = .next u → TxAligned u

/-- R188: whatever the machine does short of a reset, the TX log stays whole frames and at most one begun. -/
def Obligations.TxLogStaysFrames : Prop :=
  ∀ (s u : State), TxFrames s → (∀ ms, s.sched ≠ .reset :: ms) → step s = .next u → TxFrames u

/-- R189. -/
def Obligations.EncoderIgnoresTheReceiveHalf : Prop :=
  ∀ (s r : State) (i : Instr), isEncoderCommand i = true →
    exec i (s.withReceive r) = mapNext (fun u => u.withReceive r) (exec i s)

/-- R64, the other half: no other instruction reads or writes tx_open or the TX log. -/
def Obligations.ReceiveHalfIgnoresTheEncoder : Prop :=
  ∀ (s r : State) (i : Instr), isEncoderCommand i = false →
    exec i (s.withSend r) = mapNext (fun u => u.withSend r) (exec i s)

/-! ## The handler table -/

/-- R210, R211, with the lookups that follow (R65, R212). -/
def Obligations.RegisterWritesItsSlot : Prop :=
  ∀ (s : State) (t : Byte) (h : HandlerId), s.nextBusy = false → s.collect = none →
    (s.cfg.nTypes ≤ t.toNat →
      exec (.register t h) s = .next { s with rsp := s.rsp ++ [⟨false, .range, 0x00#8⟩] }) ∧
    (t.toNat < s.cfg.nTypes →
      exec (.register t h) s = .next
        { s with table := s.table.set t.toNat (some h), rsp := s.rsp ++ [⟨true, .ok, 0x00#8⟩] }) ∧
    (t.toNat < s.cfg.nTypes → s.tableWf = true → ∀ u, exec (.register t h) s = .next u →
      u.lookup t = some h ∧ (∀ v, v ≠ t → u.lookup v = s.lookup v) ∧ u.tableWf = true)

/-- R213: what can change the table, and how; nothing changes its size or the configuration (R30, R263). -/
def Obligations.TableIsWrittenOnlyByRegisterAndReset : Prop :=
  ∀ (s u : State), step s = .next u →
    u.cfg = s.cfg ∧ (s.tableWf = true → u.tableWf = true) ∧
    (u.table = s.table ∨
      (∃ ms, s.sched = .reset :: ms ∧ u.table = List.replicate s.cfg.nTypes none) ∨
      (∃ ms w ws t h, s.sched = .host :: ms ∧ s.cmdq = w :: ws ∧ decode s.cfg (.word w) = .register t h ∧
        t.toNat < s.cfg.nTypes ∧ u.table = s.table.set t.toNat (some h)))

/-! ## The command port -/

/-- R91: a word whose opcode is reserved, and the instruction it stands for. -/
def Obligations.ReservedWordsAnswerIllegal : Prop :=
  ∀ (s : State) (w : CmdWord) (op : Byte), s.nextBusy = false → w.extractLsb' 24 8 = op → op ∉ assignedOps →
    decode s.cfg (.word w) = .reserved op ∧
    (s.collect = none →
      exec (.reserved op) s = .next { s with rsp := s.rsp ++ [⟨false, .illegal, 0x00#8⟩] }) ∧
    (∀ c, s.collect = some c →
      exec (.reserved op) s = .next
        { s with
          collect := none
          rsp := s.rsp ++ [⟨false, .illegal, 0x00#8⟩, ⟨false, .illegal, 0x00#8⟩] })

/-- R100, R101, R149, R27: when an agent has no step. That its move then only uses up its turn is the model's choice (log 2). -/
def Obligations.DisabledMovesOnlyUseTheirTurn : Prop :=
  ∀ (s : State) (ms : List Move), s.cfg.wf = true →
    (s.rxState = .dispatching ∨ s.rxq = [] → step { s with sched := .engine :: ms } = .next { s with sched := ms }) ∧
    (s.nextBusy = false → step { s with sched := .poll :: ms } = .next { s with sched := ms }) ∧
    (s.nextBusy = true ∨ s.cmdq = [] → step { s with sched := .host :: ms } = .next { s with sched := ms })

/-- R27: while a NEXT is in progress the port takes no command; the word waits. That `exec` then answers the state it was given is the model's
choice (log 10), and so is that the host's turn is used up (log 2). -/
def Obligations.BusyPortTakesNoCommand : Prop :=
  ∀ (s : State), s.nextBusy = true →
    (∀ i, isCommand i = true → exec i s = .next s) ∧
    (∀ ms, s.cfg.wf = true → step { s with sched := .host :: ms } = .next { s with sched := ms })

/-- R92: every completed command answers one response, with the ok bit and the data its kind allows, and one that is still in progress (a gather,
a NEXT) none yet: clause by clause, the commands with no gather open, a data beat in a gather, a word that interrupts a gather, the polls of a
NEXT; and the codes of the statuses. -/
def Obligations.CommandsAnswerOneResponse : Prop :=
  (∀ (s u : State) (i : Instr), s.nextBusy = false → s.collect = none → exec i s = .next u →
    (i = .hasNext → ∃ r, AnswersCursor s u r ∧ (r.data = 0x00#8 ∨ r.data = 0x01#8)) ∧
    (i = .next → u.nextBusy = true ∧ u.rsp = s.rsp ∨ u.nextBusy = false ∧ ∃ r, AnswersCursor s u r ∧ r.data = SENTINEL) ∧
    (i = .ret ∨ i = .endSend ∨ (∃ t, i = .beginSend t) ∨ (∃ b, i = .sendByte b) ∨ (∃ t, i = .send t) ∨
        (∃ t, i = .sendBuf t 0#16) ∨ (∃ b, i = .sendBufData b) ∨ (∃ t h, i = .register t h) ∨ (∃ op, i = .reserved op) →
      AnswersCommand s u) ∧
    (∀ t len, i = .sendBuf t len → len ≠ 0#16 → u.rsp = s.rsp ∧ u.collect ≠ none)) ∧
  (∀ (s u : State) (c : Collect) (b : Byte), s.nextBusy = false → s.collect = some c →
    exec (.sendBufData b) s = .next u →
    (c.remaining = 1 → AnswersCommand s u) ∧ (2 ≤ c.remaining → u.rsp = s.rsp ∧ u.collect ≠ none)) ∧
  (∀ (s u : State) (c : Collect) (i : Instr), s.nextBusy = false → s.collect = some c → isCommand i = true →
    (∀ b, i ≠ .sendBufData b) → exec i s = .next u →
    ∃ own, u.rsp = s.rsp ++ ⟨false, .illegal, 0x00#8⟩ :: own ∧
      (own.length = 1 ∨ own = [] ∧ (u.nextBusy = true ∨ u.collect ≠ none))) ∧
  (∀ (s u : State) (i : Instr), isPollRow i = true → exec i s = .next u →
    u.nextBusy = true ∧ u.rsp = s.rsp ∨
    u.nextBusy = false ∧ ∃ r, AnswersCursor s u r ∧ (r.status ≠ .ok → r.data = SENTINEL) ∧
      (r.status = .ok → i = .curOrd r.data ∨ i = .curEscLiteral ∧ r.data = s.cfg.esc)) ∧
  [Status.ok, .sendOpen, .noSend, .notOpen, .closed, .timeout, .illegal, .range].map Status.code =
    [0#3, 1#3, 2#3, 3#3, 4#3, 5#3, 6#3, 7#3]

/-! ## The machine -/

/-- A step whose move fetches a beat runs the instruction the beat decodes to, on the state in which the move, and a command's word, are used up
(the schedule and the host's words are the model's own, log 1). -/
def Obligations.StepRunsTheDecodedInstruction : Prop :=
  ∀ (s : State) (ms : List Move) (i : Instr), s.cfg.wf = true →
    (∀ w ws, s.nextBusy = false → s.cmdq = w :: ws → decode s.cfg (.word w) = i →
      step { s with sched := .host :: ms } = exec i { s with sched := ms, cmdq := ws }) ∧
    (∀ b q, s.rxState = .idle → s.rxq = b :: q → decode s.cfg (.byte .idle s.escPending b) = i →
      step { s with sched := .engine :: ms } = exec i { s with sched := ms }) ∧
    (∀ b q, s.rxState = .awaitType → s.rxq = b :: q → decode s.cfg (.byte .awaitType s.escPending b) = i →
      step { s with sched := .engine :: ms } = exec i { s with sched := ms }) ∧
    (∀ b q, s.nextBusy = true → s.rxq = b :: q → decode s.cfg (.byte .poll s.escPending b) = i →
      step { s with sched := .poll :: ms } = exec i { s with sched := ms }) ∧
    (s.nextBusy = true → s.rxq = [] → decode s.cfg .empty = i →
      step { s with sched := .poll :: ms } = exec i { s with sched := ms })

/-- R230: no step of an admitted configuration faults or is refused, whatever the state. -/
def Obligations.EveryStepAnswersANextState : Prop :=
  ∀ (s : State), s.cfg.wf = true → ∃ u, step s = .next u

/-- R34, with R28, R30 and the gather's bounds: every step keeps the invariant. -/
def Obligations.StepKeepsTheInvariant : Prop :=
  ∀ (s u : State), Inv s → step s = .next u → Inv u

/-- R36, R263: the launch state meets the invariant, under every admitted configuration and every content of the RX queue. -/
def Obligations.LaunchMeetsTheInvariant : Prop :=
  ∀ (cfg : Config) (rxq : List Byte), cfg.wf = true → Inv (State.launch cfg rxq)

/-- R36, R260: the block fields after a reset, from any state; afterwards the cursor commands and RETURN get NOT_OPEN. R261: the queue, the TX log
and the dispatch events are kept. That the response log and the host's words are kept too is the model's choice (log 5). -/
def Obligations.ResetGivesTheResetValues : Prop :=
  ∀ (s : State) (ms : List Move), s.cfg.wf = true →
    ∃ u, step { s with sched := .reset :: ms } = .next u ∧
      u =
        { s with
          rxState := .idle, escPending := false, msgOpen := false, curHandler := none, curType := none
          afterReturn := .idle, nextBusy := false, retry := 0, txOpen := false
          table := List.replicate s.cfg.nTypes none, collect := none, sched := ms } ∧
      ∀ i, i = .hasNext ∨ i = .next ∨ i = .ret →
        exec i u = .next { u with rsp := s.rsp ++ [⟨false, .notOpen, 0x00#8⟩] }

/-- R33, R50, R62: bytes join the queue at its end and leave it at its head; inside a dispatch only a NEXT poll and HAS_NEXT take any. -/
def Obligations.BytesLeaveTheQueueInOrder : Prop :=
  ∀ (s u : State), step s = .next u →
    (∃ bs ms, s.sched = .arrive bs :: ms ∧ u = { s with rxq := s.rxq ++ bs, sched := ms }) ∨
    (∃ used, s.rxq = used ++ u.rxq ∧
      (used ≠ [] → s.rxState = .dispatching →
        (∃ ms, s.sched = .poll :: ms ∧ s.nextBusy = true ∧ used.length = 1) ∨
        (∃ ms w ws, s.sched = .host :: ms ∧ s.cmdq = w :: ws ∧ decode s.cfg (.word w) = .hasNext)))

/-- R275, R276: at the end of a run no agent but the transport and reset has a step; while a NEXT is in progress a poll always gets somewhere, and so
does the engine while bytes wait outside a dispatch. That a turn without a step is used up and changes nothing else is the model's choice (log 2). -/
def Obligations.EndedMachineHasNoStepLeft : Prop :=
  ∀ (s : State) (ms : List Move), s.cfg.wf = true →
    (s.ended → ∀ m, m = .engine ∨ m = .poll ∨ m = .host →
      step { s with sched := m :: ms } = .next { s with sched := ms }) ∧
    (s.nextBusy = true →
      ∃ u, step { s with sched := .poll :: ms } = .next u ∧
        (u.nextBusy = false ∨ u.rxq.length < s.rxq.length ∨ u.retry = s.retry + 1)) ∧
    (s.rxState ≠ .dispatching → s.rxq ≠ [] →
      ∃ u, step { s with sched := .engine :: ms } = .next u ∧ u.rxq = s.rxq.tail)

/-! ## Frames -/

/-- What the receive engine's rows leave unchanged: rows other than the two Type tokens write rx_state and esc_pending only, the Type tokens also
the dispatch fields; all of them consume one byte. -/
def Obligations.EngineTokensFrame : Prop :=
  ∀ (s u : State) (i : Instr), exec i s = .next u →
    ((i = .rxIdleEsc ∨ i = .rxIdleEscEnd ∨ i = .rxIdleEscStart ∨ i = .rxIdleEscLiteral ∨ i = .rxAwaitEsc ∨
        i = .rxAwaitEscStart ∨ i = .rxAwaitEscEnd ∨
        ∃ c, i = .rxIdleOrd c ∨ i = .rxIdleEscOther c ∨ i = .rxAwaitEscOther c) →
      u = { s with rxState := u.rxState, escPending := u.escPending, rxq := s.rxq.tail }) ∧
    ((i = .rxAwaitEscLiteral ∨ ∃ t, i = .rxAwaitType t) →
      u =
        { s with
          rxState := u.rxState, escPending := u.escPending, rxq := s.rxq.tail, msgOpen := u.msgOpen
          curHandler := u.curHandler, curType := u.curType, afterReturn := u.afterReturn, disp := u.disp })

/-- What the rows of a NEXT poll, HAS_NEXT, NEXT and RETURN leave unchanged. -/
def Obligations.CursorFrame : Prop :=
  ∀ (s u : State) (i : Instr), exec i s = .next u →
    ((i = .curEsc ∨ i = .curEscLiteral ∨ i = .curEscStart ∨ i = .curEscEnd ∨ i = .curEmpty ∨
        ∃ c, i = .curOrd c ∨ i = .curEscOther c) →
      u =
        { s with
          escPending := u.escPending, msgOpen := u.msgOpen, afterReturn := u.afterReturn, nextBusy := u.nextBusy
          retry := u.retry, rxq := s.rxq.tail, rsp := u.rsp }) ∧
    (i = .hasNext →
      u =
        { s with
          escPending := u.escPending, msgOpen := u.msgOpen, afterReturn := u.afterReturn, rxq := u.rxq
          rsp := u.rsp, collect := u.collect }) ∧
    (i = .next → u = { s with nextBusy := u.nextBusy, retry := u.retry, rsp := u.rsp, collect := u.collect }) ∧
    (i = .ret →
      u =
        { s with
          rxState := u.rxState, msgOpen := u.msgOpen, curHandler := u.curHandler, curType := u.curType
          afterReturn := u.afterReturn, rsp := u.rsp, collect := u.collect })

/-- What the encoder's commands, REGISTER and RESERVED leave unchanged; the TX log only grows; REGISTER leaves every other slot. -/
def Obligations.SendAndRegisterFrame : Prop :=
  ∀ (s u : State) (i : Instr), exec i s = .next u →
    (isEncoderCommand i = true →
      (∃ bs, u.txlog = s.txlog ++ bs) ∧
      u = { s with txOpen := u.txOpen, txlog := u.txlog, rsp := u.rsp, collect := u.collect }) ∧
    ((∃ t, i = .send t ∨ (∃ len, i = .sendBuf t len) ∨ i = .sendByte t ∨ i = .sendBufData t) →
      u.txOpen = s.txOpen) ∧
    (∀ t h, i = .register t h →
      u = { s with table := u.table, rsp := u.rsp, collect := u.collect } ∧
      ∀ n, n ≠ t.toNat → u.table[n]? = s.table[n]?) ∧
    (∀ op, i = .reserved op → u = { s with rsp := u.rsp, collect := u.collect })
end

