-- ==== Sys2Proof/Laws/State.lean ====
section
/-! SUPPORT. What each named update does to each field, so that no proof unfolds a record update. -/

namespace Sys2Proof.Machine

/-! ## rxRead -/

@[simp] theorem State.rxRead_cfg (s : State) : (s.rxRead).cfg = s.cfg := rfl
@[simp] theorem State.rxRead_rxState (s : State) : (s.rxRead).rxState = s.rxState := rfl
@[simp] theorem State.rxRead_escPending (s : State) : (s.rxRead).escPending = s.escPending := rfl
@[simp] theorem State.rxRead_msgOpen (s : State) : (s.rxRead).msgOpen = s.msgOpen := rfl
@[simp] theorem State.rxRead_curHandler (s : State) : (s.rxRead).curHandler = s.curHandler := rfl
@[simp] theorem State.rxRead_curType (s : State) : (s.rxRead).curType = s.curType := rfl
@[simp] theorem State.rxRead_afterReturn (s : State) : (s.rxRead).afterReturn = s.afterReturn := rfl
@[simp] theorem State.rxRead_nextBusy (s : State) : (s.rxRead).nextBusy = s.nextBusy := rfl
@[simp] theorem State.rxRead_retry (s : State) : (s.rxRead).retry = s.retry := rfl
@[simp] theorem State.rxRead_txOpen (s : State) : (s.rxRead).txOpen = s.txOpen := rfl
@[simp] theorem State.rxRead_table (s : State) : (s.rxRead).table = s.table := rfl
@[simp] theorem State.rxRead_collect (s : State) : (s.rxRead).collect = s.collect := rfl
@[simp] theorem State.rxRead_rxq (s : State) : (s.rxRead).rxq = s.rxq.tail := rfl
@[simp] theorem State.rxRead_txlog (s : State) : (s.rxRead).txlog = s.txlog := rfl
@[simp] theorem State.rxRead_disp (s : State) : (s.rxRead).disp = s.disp := rfl
@[simp] theorem State.rxRead_rsp (s : State) : (s.rxRead).rsp = s.rsp := rfl
@[simp] theorem State.rxRead_cmdq (s : State) : (s.rxRead).cmdq = s.cmdq := rfl
@[simp] theorem State.rxRead_sched (s : State) : (s.rxRead).sched = s.sched := rfl

/-! ## rxAppend -/

@[simp] theorem State.rxAppend_cfg (s : State) (bs : List Byte) : (s.rxAppend bs).cfg = s.cfg := rfl
@[simp] theorem State.rxAppend_rxState (s : State) (bs : List Byte) : (s.rxAppend bs).rxState = s.rxState := rfl
@[simp] theorem State.rxAppend_escPending (s : State) (bs : List Byte) : (s.rxAppend bs).escPending = s.escPending := rfl
@[simp] theorem State.rxAppend_msgOpen (s : State) (bs : List Byte) : (s.rxAppend bs).msgOpen = s.msgOpen := rfl
@[simp] theorem State.rxAppend_curHandler (s : State) (bs : List Byte) : (s.rxAppend bs).curHandler = s.curHandler := rfl
@[simp] theorem State.rxAppend_curType (s : State) (bs : List Byte) : (s.rxAppend bs).curType = s.curType := rfl
@[simp] theorem State.rxAppend_afterReturn (s : State) (bs : List Byte) : (s.rxAppend bs).afterReturn = s.afterReturn := rfl
@[simp] theorem State.rxAppend_nextBusy (s : State) (bs : List Byte) : (s.rxAppend bs).nextBusy = s.nextBusy := rfl
@[simp] theorem State.rxAppend_retry (s : State) (bs : List Byte) : (s.rxAppend bs).retry = s.retry := rfl
@[simp] theorem State.rxAppend_txOpen (s : State) (bs : List Byte) : (s.rxAppend bs).txOpen = s.txOpen := rfl
@[simp] theorem State.rxAppend_table (s : State) (bs : List Byte) : (s.rxAppend bs).table = s.table := rfl
@[simp] theorem State.rxAppend_collect (s : State) (bs : List Byte) : (s.rxAppend bs).collect = s.collect := rfl
@[simp] theorem State.rxAppend_rxq (s : State) (bs : List Byte) : (s.rxAppend bs).rxq = s.rxq ++ bs := rfl
@[simp] theorem State.rxAppend_txlog (s : State) (bs : List Byte) : (s.rxAppend bs).txlog = s.txlog := rfl
@[simp] theorem State.rxAppend_disp (s : State) (bs : List Byte) : (s.rxAppend bs).disp = s.disp := rfl
@[simp] theorem State.rxAppend_rsp (s : State) (bs : List Byte) : (s.rxAppend bs).rsp = s.rsp := rfl
@[simp] theorem State.rxAppend_cmdq (s : State) (bs : List Byte) : (s.rxAppend bs).cmdq = s.cmdq := rfl
@[simp] theorem State.rxAppend_sched (s : State) (bs : List Byte) : (s.rxAppend bs).sched = s.sched := rfl

/-! ## txWrite -/

@[simp] theorem State.txWrite_cfg (s : State) (bs : List Byte) : (s.txWrite bs).cfg = s.cfg := rfl
@[simp] theorem State.txWrite_rxState (s : State) (bs : List Byte) : (s.txWrite bs).rxState = s.rxState := rfl
@[simp] theorem State.txWrite_escPending (s : State) (bs : List Byte) : (s.txWrite bs).escPending = s.escPending := rfl
@[simp] theorem State.txWrite_msgOpen (s : State) (bs : List Byte) : (s.txWrite bs).msgOpen = s.msgOpen := rfl
@[simp] theorem State.txWrite_curHandler (s : State) (bs : List Byte) : (s.txWrite bs).curHandler = s.curHandler := rfl
@[simp] theorem State.txWrite_curType (s : State) (bs : List Byte) : (s.txWrite bs).curType = s.curType := rfl
@[simp] theorem State.txWrite_afterReturn (s : State) (bs : List Byte) : (s.txWrite bs).afterReturn = s.afterReturn := rfl
@[simp] theorem State.txWrite_nextBusy (s : State) (bs : List Byte) : (s.txWrite bs).nextBusy = s.nextBusy := rfl
@[simp] theorem State.txWrite_retry (s : State) (bs : List Byte) : (s.txWrite bs).retry = s.retry := rfl
@[simp] theorem State.txWrite_txOpen (s : State) (bs : List Byte) : (s.txWrite bs).txOpen = s.txOpen := rfl
@[simp] theorem State.txWrite_table (s : State) (bs : List Byte) : (s.txWrite bs).table = s.table := rfl
@[simp] theorem State.txWrite_collect (s : State) (bs : List Byte) : (s.txWrite bs).collect = s.collect := rfl
@[simp] theorem State.txWrite_rxq (s : State) (bs : List Byte) : (s.txWrite bs).rxq = s.rxq := rfl
@[simp] theorem State.txWrite_txlog (s : State) (bs : List Byte) : (s.txWrite bs).txlog = s.txlog ++ bs := rfl
@[simp] theorem State.txWrite_disp (s : State) (bs : List Byte) : (s.txWrite bs).disp = s.disp := rfl
@[simp] theorem State.txWrite_rsp (s : State) (bs : List Byte) : (s.txWrite bs).rsp = s.rsp := rfl
@[simp] theorem State.txWrite_cmdq (s : State) (bs : List Byte) : (s.txWrite bs).cmdq = s.cmdq := rfl
@[simp] theorem State.txWrite_sched (s : State) (bs : List Byte) : (s.txWrite bs).sched = s.sched := rfl

/-! ## tableWrite -/

@[simp] theorem State.tableWrite_cfg (s : State) (t : Byte) (h : HandlerId) : (s.tableWrite t h).cfg = s.cfg := rfl
@[simp] theorem State.tableWrite_rxState (s : State) (t : Byte) (h : HandlerId) : (s.tableWrite t h).rxState = s.rxState := rfl
@[simp] theorem State.tableWrite_escPending (s : State) (t : Byte) (h : HandlerId) : (s.tableWrite t h).escPending = s.escPending := rfl
@[simp] theorem State.tableWrite_msgOpen (s : State) (t : Byte) (h : HandlerId) : (s.tableWrite t h).msgOpen = s.msgOpen := rfl
@[simp] theorem State.tableWrite_curHandler (s : State) (t : Byte) (h : HandlerId) : (s.tableWrite t h).curHandler = s.curHandler := rfl
@[simp] theorem State.tableWrite_curType (s : State) (t : Byte) (h : HandlerId) : (s.tableWrite t h).curType = s.curType := rfl
@[simp] theorem State.tableWrite_afterReturn (s : State) (t : Byte) (h : HandlerId) : (s.tableWrite t h).afterReturn = s.afterReturn := rfl
@[simp] theorem State.tableWrite_nextBusy (s : State) (t : Byte) (h : HandlerId) : (s.tableWrite t h).nextBusy = s.nextBusy := rfl
@[simp] theorem State.tableWrite_retry (s : State) (t : Byte) (h : HandlerId) : (s.tableWrite t h).retry = s.retry := rfl
@[simp] theorem State.tableWrite_txOpen (s : State) (t : Byte) (h : HandlerId) : (s.tableWrite t h).txOpen = s.txOpen := rfl
@[simp] theorem State.tableWrite_table (s : State) (t : Byte) (h : HandlerId) : (s.tableWrite t h).table = s.table.set t.toNat (some h) := rfl
@[simp] theorem State.tableWrite_collect (s : State) (t : Byte) (h : HandlerId) : (s.tableWrite t h).collect = s.collect := rfl
@[simp] theorem State.tableWrite_rxq (s : State) (t : Byte) (h : HandlerId) : (s.tableWrite t h).rxq = s.rxq := rfl
@[simp] theorem State.tableWrite_txlog (s : State) (t : Byte) (h : HandlerId) : (s.tableWrite t h).txlog = s.txlog := rfl
@[simp] theorem State.tableWrite_disp (s : State) (t : Byte) (h : HandlerId) : (s.tableWrite t h).disp = s.disp := rfl
@[simp] theorem State.tableWrite_rsp (s : State) (t : Byte) (h : HandlerId) : (s.tableWrite t h).rsp = s.rsp := rfl
@[simp] theorem State.tableWrite_cmdq (s : State) (t : Byte) (h : HandlerId) : (s.tableWrite t h).cmdq = s.cmdq := rfl
@[simp] theorem State.tableWrite_sched (s : State) (t : Byte) (h : HandlerId) : (s.tableWrite t h).sched = s.sched := rfl

/-! ## respond -/

@[simp] theorem State.respond_cfg (s : State) (ok : Bool) (st : Status) (d : Byte) : (s.respond ok st d).cfg = s.cfg := rfl
@[simp] theorem State.respond_rxState (s : State) (ok : Bool) (st : Status) (d : Byte) : (s.respond ok st d).rxState = s.rxState := rfl
@[simp] theorem State.respond_escPending (s : State) (ok : Bool) (st : Status) (d : Byte) : (s.respond ok st d).escPending = s.escPending := rfl
@[simp] theorem State.respond_msgOpen (s : State) (ok : Bool) (st : Status) (d : Byte) : (s.respond ok st d).msgOpen = s.msgOpen := rfl
@[simp] theorem State.respond_curHandler (s : State) (ok : Bool) (st : Status) (d : Byte) : (s.respond ok st d).curHandler = s.curHandler := rfl
@[simp] theorem State.respond_curType (s : State) (ok : Bool) (st : Status) (d : Byte) : (s.respond ok st d).curType = s.curType := rfl
@[simp] theorem State.respond_afterReturn (s : State) (ok : Bool) (st : Status) (d : Byte) : (s.respond ok st d).afterReturn = s.afterReturn := rfl
@[simp] theorem State.respond_nextBusy (s : State) (ok : Bool) (st : Status) (d : Byte) : (s.respond ok st d).nextBusy = s.nextBusy := rfl
@[simp] theorem State.respond_retry (s : State) (ok : Bool) (st : Status) (d : Byte) : (s.respond ok st d).retry = s.retry := rfl
@[simp] theorem State.respond_txOpen (s : State) (ok : Bool) (st : Status) (d : Byte) : (s.respond ok st d).txOpen = s.txOpen := rfl
@[simp] theorem State.respond_table (s : State) (ok : Bool) (st : Status) (d : Byte) : (s.respond ok st d).table = s.table := rfl
@[simp] theorem State.respond_collect (s : State) (ok : Bool) (st : Status) (d : Byte) : (s.respond ok st d).collect = s.collect := rfl
@[simp] theorem State.respond_rxq (s : State) (ok : Bool) (st : Status) (d : Byte) : (s.respond ok st d).rxq = s.rxq := rfl
@[simp] theorem State.respond_txlog (s : State) (ok : Bool) (st : Status) (d : Byte) : (s.respond ok st d).txlog = s.txlog := rfl
@[simp] theorem State.respond_disp (s : State) (ok : Bool) (st : Status) (d : Byte) : (s.respond ok st d).disp = s.disp := rfl
@[simp] theorem State.respond_rsp (s : State) (ok : Bool) (st : Status) (d : Byte) : (s.respond ok st d).rsp = s.rsp ++ [⟨ok, st, d⟩] := rfl
@[simp] theorem State.respond_cmdq (s : State) (ok : Bool) (st : Status) (d : Byte) : (s.respond ok st d).cmdq = s.cmdq := rfl
@[simp] theorem State.respond_sched (s : State) (ok : Bool) (st : Status) (d : Byte) : (s.respond ok st d).sched = s.sched := rfl

/-! ## respondCursor -/

@[simp] theorem State.respondCursor_cfg (s : State) (st : Status) (d : Byte) : (s.respondCursor st d).cfg = s.cfg := rfl
@[simp] theorem State.respondCursor_rxState (s : State) (st : Status) (d : Byte) : (s.respondCursor st d).rxState = s.rxState := rfl
@[simp] theorem State.respondCursor_escPending (s : State) (st : Status) (d : Byte) : (s.respondCursor st d).escPending = s.escPending := rfl
@[simp] theorem State.respondCursor_msgOpen (s : State) (st : Status) (d : Byte) : (s.respondCursor st d).msgOpen = s.msgOpen := rfl
@[simp] theorem State.respondCursor_curHandler (s : State) (st : Status) (d : Byte) : (s.respondCursor st d).curHandler = s.curHandler := rfl
@[simp] theorem State.respondCursor_curType (s : State) (st : Status) (d : Byte) : (s.respondCursor st d).curType = s.curType := rfl
@[simp] theorem State.respondCursor_afterReturn (s : State) (st : Status) (d : Byte) : (s.respondCursor st d).afterReturn = s.afterReturn := rfl
@[simp] theorem State.respondCursor_nextBusy (s : State) (st : Status) (d : Byte) : (s.respondCursor st d).nextBusy = s.nextBusy := rfl
@[simp] theorem State.respondCursor_retry (s : State) (st : Status) (d : Byte) : (s.respondCursor st d).retry = s.retry := rfl
@[simp] theorem State.respondCursor_txOpen (s : State) (st : Status) (d : Byte) : (s.respondCursor st d).txOpen = s.txOpen := rfl
@[simp] theorem State.respondCursor_table (s : State) (st : Status) (d : Byte) : (s.respondCursor st d).table = s.table := rfl
@[simp] theorem State.respondCursor_collect (s : State) (st : Status) (d : Byte) : (s.respondCursor st d).collect = s.collect := rfl
@[simp] theorem State.respondCursor_rxq (s : State) (st : Status) (d : Byte) : (s.respondCursor st d).rxq = s.rxq := rfl
@[simp] theorem State.respondCursor_txlog (s : State) (st : Status) (d : Byte) : (s.respondCursor st d).txlog = s.txlog := rfl
@[simp] theorem State.respondCursor_disp (s : State) (st : Status) (d : Byte) : (s.respondCursor st d).disp = s.disp := rfl
@[simp] theorem State.respondCursor_rsp (s : State) (st : Status) (d : Byte) : (s.respondCursor st d).rsp = s.rsp ++ [⟨okCursor st, st, d⟩] := rfl
@[simp] theorem State.respondCursor_cmdq (s : State) (st : Status) (d : Byte) : (s.respondCursor st d).cmdq = s.cmdq := rfl
@[simp] theorem State.respondCursor_sched (s : State) (st : Status) (d : Byte) : (s.respondCursor st d).sched = s.sched := rfl

/-! ## respondCommand -/

@[simp] theorem State.respondCommand_cfg (s : State) (st : Status) : (s.respondCommand st).cfg = s.cfg := rfl
@[simp] theorem State.respondCommand_rxState (s : State) (st : Status) : (s.respondCommand st).rxState = s.rxState := rfl
@[simp] theorem State.respondCommand_escPending (s : State) (st : Status) : (s.respondCommand st).escPending = s.escPending := rfl
@[simp] theorem State.respondCommand_msgOpen (s : State) (st : Status) : (s.respondCommand st).msgOpen = s.msgOpen := rfl
@[simp] theorem State.respondCommand_curHandler (s : State) (st : Status) : (s.respondCommand st).curHandler = s.curHandler := rfl
@[simp] theorem State.respondCommand_curType (s : State) (st : Status) : (s.respondCommand st).curType = s.curType := rfl
@[simp] theorem State.respondCommand_afterReturn (s : State) (st : Status) : (s.respondCommand st).afterReturn = s.afterReturn := rfl
@[simp] theorem State.respondCommand_nextBusy (s : State) (st : Status) : (s.respondCommand st).nextBusy = s.nextBusy := rfl
@[simp] theorem State.respondCommand_retry (s : State) (st : Status) : (s.respondCommand st).retry = s.retry := rfl
@[simp] theorem State.respondCommand_txOpen (s : State) (st : Status) : (s.respondCommand st).txOpen = s.txOpen := rfl
@[simp] theorem State.respondCommand_table (s : State) (st : Status) : (s.respondCommand st).table = s.table := rfl
@[simp] theorem State.respondCommand_collect (s : State) (st : Status) : (s.respondCommand st).collect = s.collect := rfl
@[simp] theorem State.respondCommand_rxq (s : State) (st : Status) : (s.respondCommand st).rxq = s.rxq := rfl
@[simp] theorem State.respondCommand_txlog (s : State) (st : Status) : (s.respondCommand st).txlog = s.txlog := rfl
@[simp] theorem State.respondCommand_disp (s : State) (st : Status) : (s.respondCommand st).disp = s.disp := rfl
@[simp] theorem State.respondCommand_rsp (s : State) (st : Status) : (s.respondCommand st).rsp = s.rsp ++ [⟨okCommand st, st, 0x00#8⟩] := rfl
@[simp] theorem State.respondCommand_cmdq (s : State) (st : Status) : (s.respondCommand st).cmdq = s.cmdq := rfl
@[simp] theorem State.respondCommand_sched (s : State) (st : Status) : (s.respondCommand st).sched = s.sched := rfl

/-! ## setEsc -/

@[simp] theorem State.setEsc_cfg (s : State) (e : Bool) : (s.setEsc e).cfg = s.cfg := rfl
@[simp] theorem State.setEsc_rxState (s : State) (e : Bool) : (s.setEsc e).rxState = s.rxState := rfl
@[simp] theorem State.setEsc_escPending (s : State) (e : Bool) : (s.setEsc e).escPending = e := rfl
@[simp] theorem State.setEsc_msgOpen (s : State) (e : Bool) : (s.setEsc e).msgOpen = s.msgOpen := rfl
@[simp] theorem State.setEsc_curHandler (s : State) (e : Bool) : (s.setEsc e).curHandler = s.curHandler := rfl
@[simp] theorem State.setEsc_curType (s : State) (e : Bool) : (s.setEsc e).curType = s.curType := rfl
@[simp] theorem State.setEsc_afterReturn (s : State) (e : Bool) : (s.setEsc e).afterReturn = s.afterReturn := rfl
@[simp] theorem State.setEsc_nextBusy (s : State) (e : Bool) : (s.setEsc e).nextBusy = s.nextBusy := rfl
@[simp] theorem State.setEsc_retry (s : State) (e : Bool) : (s.setEsc e).retry = s.retry := rfl
@[simp] theorem State.setEsc_txOpen (s : State) (e : Bool) : (s.setEsc e).txOpen = s.txOpen := rfl
@[simp] theorem State.setEsc_table (s : State) (e : Bool) : (s.setEsc e).table = s.table := rfl
@[simp] theorem State.setEsc_collect (s : State) (e : Bool) : (s.setEsc e).collect = s.collect := rfl
@[simp] theorem State.setEsc_rxq (s : State) (e : Bool) : (s.setEsc e).rxq = s.rxq := rfl
@[simp] theorem State.setEsc_txlog (s : State) (e : Bool) : (s.setEsc e).txlog = s.txlog := rfl
@[simp] theorem State.setEsc_disp (s : State) (e : Bool) : (s.setEsc e).disp = s.disp := rfl
@[simp] theorem State.setEsc_rsp (s : State) (e : Bool) : (s.setEsc e).rsp = s.rsp := rfl
@[simp] theorem State.setEsc_cmdq (s : State) (e : Bool) : (s.setEsc e).cmdq = s.cmdq := rfl
@[simp] theorem State.setEsc_sched (s : State) (e : Bool) : (s.setEsc e).sched = s.sched := rfl

/-! ## setRxState -/

@[simp] theorem State.setRxState_cfg (s : State) (r : RxState) : (s.setRxState r).cfg = s.cfg := rfl
@[simp] theorem State.setRxState_rxState (s : State) (r : RxState) : (s.setRxState r).rxState = r := rfl
@[simp] theorem State.setRxState_escPending (s : State) (r : RxState) : (s.setRxState r).escPending = s.escPending := rfl
@[simp] theorem State.setRxState_msgOpen (s : State) (r : RxState) : (s.setRxState r).msgOpen = s.msgOpen := rfl
@[simp] theorem State.setRxState_curHandler (s : State) (r : RxState) : (s.setRxState r).curHandler = s.curHandler := rfl
@[simp] theorem State.setRxState_curType (s : State) (r : RxState) : (s.setRxState r).curType = s.curType := rfl
@[simp] theorem State.setRxState_afterReturn (s : State) (r : RxState) : (s.setRxState r).afterReturn = s.afterReturn := rfl
@[simp] theorem State.setRxState_nextBusy (s : State) (r : RxState) : (s.setRxState r).nextBusy = s.nextBusy := rfl
@[simp] theorem State.setRxState_retry (s : State) (r : RxState) : (s.setRxState r).retry = s.retry := rfl
@[simp] theorem State.setRxState_txOpen (s : State) (r : RxState) : (s.setRxState r).txOpen = s.txOpen := rfl
@[simp] theorem State.setRxState_table (s : State) (r : RxState) : (s.setRxState r).table = s.table := rfl
@[simp] theorem State.setRxState_collect (s : State) (r : RxState) : (s.setRxState r).collect = s.collect := rfl
@[simp] theorem State.setRxState_rxq (s : State) (r : RxState) : (s.setRxState r).rxq = s.rxq := rfl
@[simp] theorem State.setRxState_txlog (s : State) (r : RxState) : (s.setRxState r).txlog = s.txlog := rfl
@[simp] theorem State.setRxState_disp (s : State) (r : RxState) : (s.setRxState r).disp = s.disp := rfl
@[simp] theorem State.setRxState_rsp (s : State) (r : RxState) : (s.setRxState r).rsp = s.rsp := rfl
@[simp] theorem State.setRxState_cmdq (s : State) (r : RxState) : (s.setRxState r).cmdq = s.cmdq := rfl
@[simp] theorem State.setRxState_sched (s : State) (r : RxState) : (s.setRxState r).sched = s.sched := rfl

/-! ## setRetry -/

@[simp] theorem State.setRetry_cfg (s : State) (n : Nat) : (s.setRetry n).cfg = s.cfg := rfl
@[simp] theorem State.setRetry_rxState (s : State) (n : Nat) : (s.setRetry n).rxState = s.rxState := rfl
@[simp] theorem State.setRetry_escPending (s : State) (n : Nat) : (s.setRetry n).escPending = s.escPending := rfl
@[simp] theorem State.setRetry_msgOpen (s : State) (n : Nat) : (s.setRetry n).msgOpen = s.msgOpen := rfl
@[simp] theorem State.setRetry_curHandler (s : State) (n : Nat) : (s.setRetry n).curHandler = s.curHandler := rfl
@[simp] theorem State.setRetry_curType (s : State) (n : Nat) : (s.setRetry n).curType = s.curType := rfl
@[simp] theorem State.setRetry_afterReturn (s : State) (n : Nat) : (s.setRetry n).afterReturn = s.afterReturn := rfl
@[simp] theorem State.setRetry_nextBusy (s : State) (n : Nat) : (s.setRetry n).nextBusy = s.nextBusy := rfl
@[simp] theorem State.setRetry_retry (s : State) (n : Nat) : (s.setRetry n).retry = n := rfl
@[simp] theorem State.setRetry_txOpen (s : State) (n : Nat) : (s.setRetry n).txOpen = s.txOpen := rfl
@[simp] theorem State.setRetry_table (s : State) (n : Nat) : (s.setRetry n).table = s.table := rfl
@[simp] theorem State.setRetry_collect (s : State) (n : Nat) : (s.setRetry n).collect = s.collect := rfl
@[simp] theorem State.setRetry_rxq (s : State) (n : Nat) : (s.setRetry n).rxq = s.rxq := rfl
@[simp] theorem State.setRetry_txlog (s : State) (n : Nat) : (s.setRetry n).txlog = s.txlog := rfl
@[simp] theorem State.setRetry_disp (s : State) (n : Nat) : (s.setRetry n).disp = s.disp := rfl
@[simp] theorem State.setRetry_rsp (s : State) (n : Nat) : (s.setRetry n).rsp = s.rsp := rfl
@[simp] theorem State.setRetry_cmdq (s : State) (n : Nat) : (s.setRetry n).cmdq = s.cmdq := rfl
@[simp] theorem State.setRetry_sched (s : State) (n : Nat) : (s.setRetry n).sched = s.sched := rfl

/-! ## setTxOpen -/

@[simp] theorem State.setTxOpen_cfg (s : State) (b : Bool) : (s.setTxOpen b).cfg = s.cfg := rfl
@[simp] theorem State.setTxOpen_rxState (s : State) (b : Bool) : (s.setTxOpen b).rxState = s.rxState := rfl
@[simp] theorem State.setTxOpen_escPending (s : State) (b : Bool) : (s.setTxOpen b).escPending = s.escPending := rfl
@[simp] theorem State.setTxOpen_msgOpen (s : State) (b : Bool) : (s.setTxOpen b).msgOpen = s.msgOpen := rfl
@[simp] theorem State.setTxOpen_curHandler (s : State) (b : Bool) : (s.setTxOpen b).curHandler = s.curHandler := rfl
@[simp] theorem State.setTxOpen_curType (s : State) (b : Bool) : (s.setTxOpen b).curType = s.curType := rfl
@[simp] theorem State.setTxOpen_afterReturn (s : State) (b : Bool) : (s.setTxOpen b).afterReturn = s.afterReturn := rfl
@[simp] theorem State.setTxOpen_nextBusy (s : State) (b : Bool) : (s.setTxOpen b).nextBusy = s.nextBusy := rfl
@[simp] theorem State.setTxOpen_retry (s : State) (b : Bool) : (s.setTxOpen b).retry = s.retry := rfl
@[simp] theorem State.setTxOpen_txOpen (s : State) (b : Bool) : (s.setTxOpen b).txOpen = b := rfl
@[simp] theorem State.setTxOpen_table (s : State) (b : Bool) : (s.setTxOpen b).table = s.table := rfl
@[simp] theorem State.setTxOpen_collect (s : State) (b : Bool) : (s.setTxOpen b).collect = s.collect := rfl
@[simp] theorem State.setTxOpen_rxq (s : State) (b : Bool) : (s.setTxOpen b).rxq = s.rxq := rfl
@[simp] theorem State.setTxOpen_txlog (s : State) (b : Bool) : (s.setTxOpen b).txlog = s.txlog := rfl
@[simp] theorem State.setTxOpen_disp (s : State) (b : Bool) : (s.setTxOpen b).disp = s.disp := rfl
@[simp] theorem State.setTxOpen_rsp (s : State) (b : Bool) : (s.setTxOpen b).rsp = s.rsp := rfl
@[simp] theorem State.setTxOpen_cmdq (s : State) (b : Bool) : (s.setTxOpen b).cmdq = s.cmdq := rfl
@[simp] theorem State.setTxOpen_sched (s : State) (b : Bool) : (s.setTxOpen b).sched = s.sched := rfl

/-! ## setCollect -/

@[simp] theorem State.setCollect_cfg (s : State) (c : Option Collect) : (s.setCollect c).cfg = s.cfg := rfl
@[simp] theorem State.setCollect_rxState (s : State) (c : Option Collect) : (s.setCollect c).rxState = s.rxState := rfl
@[simp] theorem State.setCollect_escPending (s : State) (c : Option Collect) : (s.setCollect c).escPending = s.escPending := rfl
@[simp] theorem State.setCollect_msgOpen (s : State) (c : Option Collect) : (s.setCollect c).msgOpen = s.msgOpen := rfl
@[simp] theorem State.setCollect_curHandler (s : State) (c : Option Collect) : (s.setCollect c).curHandler = s.curHandler := rfl
@[simp] theorem State.setCollect_curType (s : State) (c : Option Collect) : (s.setCollect c).curType = s.curType := rfl
@[simp] theorem State.setCollect_afterReturn (s : State) (c : Option Collect) : (s.setCollect c).afterReturn = s.afterReturn := rfl
@[simp] theorem State.setCollect_nextBusy (s : State) (c : Option Collect) : (s.setCollect c).nextBusy = s.nextBusy := rfl
@[simp] theorem State.setCollect_retry (s : State) (c : Option Collect) : (s.setCollect c).retry = s.retry := rfl
@[simp] theorem State.setCollect_txOpen (s : State) (c : Option Collect) : (s.setCollect c).txOpen = s.txOpen := rfl
@[simp] theorem State.setCollect_table (s : State) (c : Option Collect) : (s.setCollect c).table = s.table := rfl
@[simp] theorem State.setCollect_collect (s : State) (c : Option Collect) : (s.setCollect c).collect = c := rfl
@[simp] theorem State.setCollect_rxq (s : State) (c : Option Collect) : (s.setCollect c).rxq = s.rxq := rfl
@[simp] theorem State.setCollect_txlog (s : State) (c : Option Collect) : (s.setCollect c).txlog = s.txlog := rfl
@[simp] theorem State.setCollect_disp (s : State) (c : Option Collect) : (s.setCollect c).disp = s.disp := rfl
@[simp] theorem State.setCollect_rsp (s : State) (c : Option Collect) : (s.setCollect c).rsp = s.rsp := rfl
@[simp] theorem State.setCollect_cmdq (s : State) (c : Option Collect) : (s.setCollect c).cmdq = s.cmdq := rfl
@[simp] theorem State.setCollect_sched (s : State) (c : Option Collect) : (s.setCollect c).sched = s.sched := rfl

/-! ## closeMessage -/

@[simp] theorem State.closeMessage_cfg (s : State) : (s.closeMessage).cfg = s.cfg := rfl
@[simp] theorem State.closeMessage_rxState (s : State) : (s.closeMessage).rxState = s.rxState := rfl
@[simp] theorem State.closeMessage_escPending (s : State) : (s.closeMessage).escPending = s.escPending := rfl
@[simp] theorem State.closeMessage_msgOpen (s : State) : (s.closeMessage).msgOpen = false := rfl
@[simp] theorem State.closeMessage_curHandler (s : State) : (s.closeMessage).curHandler = s.curHandler := rfl
@[simp] theorem State.closeMessage_curType (s : State) : (s.closeMessage).curType = s.curType := rfl
@[simp] theorem State.closeMessage_afterReturn (s : State) : (s.closeMessage).afterReturn = s.afterReturn := rfl
@[simp] theorem State.closeMessage_nextBusy (s : State) : (s.closeMessage).nextBusy = s.nextBusy := rfl
@[simp] theorem State.closeMessage_retry (s : State) : (s.closeMessage).retry = s.retry := rfl
@[simp] theorem State.closeMessage_txOpen (s : State) : (s.closeMessage).txOpen = s.txOpen := rfl
@[simp] theorem State.closeMessage_table (s : State) : (s.closeMessage).table = s.table := rfl
@[simp] theorem State.closeMessage_collect (s : State) : (s.closeMessage).collect = s.collect := rfl
@[simp] theorem State.closeMessage_rxq (s : State) : (s.closeMessage).rxq = s.rxq := rfl
@[simp] theorem State.closeMessage_txlog (s : State) : (s.closeMessage).txlog = s.txlog := rfl
@[simp] theorem State.closeMessage_disp (s : State) : (s.closeMessage).disp = s.disp := rfl
@[simp] theorem State.closeMessage_rsp (s : State) : (s.closeMessage).rsp = s.rsp := rfl
@[simp] theorem State.closeMessage_cmdq (s : State) : (s.closeMessage).cmdq = s.cmdq := rfl
@[simp] theorem State.closeMessage_sched (s : State) : (s.closeMessage).sched = s.sched := rfl

/-! ## cutMessage -/

@[simp] theorem State.cutMessage_cfg (s : State) : (s.cutMessage).cfg = s.cfg := rfl
@[simp] theorem State.cutMessage_rxState (s : State) : (s.cutMessage).rxState = s.rxState := rfl
@[simp] theorem State.cutMessage_escPending (s : State) : (s.cutMessage).escPending = s.escPending := rfl
@[simp] theorem State.cutMessage_msgOpen (s : State) : (s.cutMessage).msgOpen = false := rfl
@[simp] theorem State.cutMessage_curHandler (s : State) : (s.cutMessage).curHandler = s.curHandler := rfl
@[simp] theorem State.cutMessage_curType (s : State) : (s.cutMessage).curType = s.curType := rfl
@[simp] theorem State.cutMessage_afterReturn (s : State) : (s.cutMessage).afterReturn = .awaitType := rfl
@[simp] theorem State.cutMessage_nextBusy (s : State) : (s.cutMessage).nextBusy = s.nextBusy := rfl
@[simp] theorem State.cutMessage_retry (s : State) : (s.cutMessage).retry = s.retry := rfl
@[simp] theorem State.cutMessage_txOpen (s : State) : (s.cutMessage).txOpen = s.txOpen := rfl
@[simp] theorem State.cutMessage_table (s : State) : (s.cutMessage).table = s.table := rfl
@[simp] theorem State.cutMessage_collect (s : State) : (s.cutMessage).collect = s.collect := rfl
@[simp] theorem State.cutMessage_rxq (s : State) : (s.cutMessage).rxq = s.rxq := rfl
@[simp] theorem State.cutMessage_txlog (s : State) : (s.cutMessage).txlog = s.txlog := rfl
@[simp] theorem State.cutMessage_disp (s : State) : (s.cutMessage).disp = s.disp := rfl
@[simp] theorem State.cutMessage_rsp (s : State) : (s.cutMessage).rsp = s.rsp := rfl
@[simp] theorem State.cutMessage_cmdq (s : State) : (s.cutMessage).cmdq = s.cmdq := rfl
@[simp] theorem State.cutMessage_sched (s : State) : (s.cutMessage).sched = s.sched := rfl

/-! ## dispatchTo -/

@[simp] theorem State.dispatchTo_cfg (s : State) (h : HandlerId) (t : Byte) : (s.dispatchTo h t).cfg = s.cfg := rfl
@[simp] theorem State.dispatchTo_rxState (s : State) (h : HandlerId) (t : Byte) : (s.dispatchTo h t).rxState = .dispatching := rfl
@[simp] theorem State.dispatchTo_escPending (s : State) (h : HandlerId) (t : Byte) : (s.dispatchTo h t).escPending = s.escPending := rfl
@[simp] theorem State.dispatchTo_msgOpen (s : State) (h : HandlerId) (t : Byte) : (s.dispatchTo h t).msgOpen = true := rfl
@[simp] theorem State.dispatchTo_curHandler (s : State) (h : HandlerId) (t : Byte) : (s.dispatchTo h t).curHandler = some h := rfl
@[simp] theorem State.dispatchTo_curType (s : State) (h : HandlerId) (t : Byte) : (s.dispatchTo h t).curType = some t := rfl
@[simp] theorem State.dispatchTo_afterReturn (s : State) (h : HandlerId) (t : Byte) : (s.dispatchTo h t).afterReturn = .idle := rfl
@[simp] theorem State.dispatchTo_nextBusy (s : State) (h : HandlerId) (t : Byte) : (s.dispatchTo h t).nextBusy = s.nextBusy := rfl
@[simp] theorem State.dispatchTo_retry (s : State) (h : HandlerId) (t : Byte) : (s.dispatchTo h t).retry = s.retry := rfl
@[simp] theorem State.dispatchTo_txOpen (s : State) (h : HandlerId) (t : Byte) : (s.dispatchTo h t).txOpen = s.txOpen := rfl
@[simp] theorem State.dispatchTo_table (s : State) (h : HandlerId) (t : Byte) : (s.dispatchTo h t).table = s.table := rfl
@[simp] theorem State.dispatchTo_collect (s : State) (h : HandlerId) (t : Byte) : (s.dispatchTo h t).collect = s.collect := rfl
@[simp] theorem State.dispatchTo_rxq (s : State) (h : HandlerId) (t : Byte) : (s.dispatchTo h t).rxq = s.rxq := rfl
@[simp] theorem State.dispatchTo_txlog (s : State) (h : HandlerId) (t : Byte) : (s.dispatchTo h t).txlog = s.txlog := rfl
@[simp] theorem State.dispatchTo_disp (s : State) (h : HandlerId) (t : Byte) : (s.dispatchTo h t).disp = s.disp ++ [(h, t)] := rfl
@[simp] theorem State.dispatchTo_rsp (s : State) (h : HandlerId) (t : Byte) : (s.dispatchTo h t).rsp = s.rsp := rfl
@[simp] theorem State.dispatchTo_cmdq (s : State) (h : HandlerId) (t : Byte) : (s.dispatchTo h t).cmdq = s.cmdq := rfl
@[simp] theorem State.dispatchTo_sched (s : State) (h : HandlerId) (t : Byte) : (s.dispatchTo h t).sched = s.sched := rfl

/-! ## returnFromDispatch -/

@[simp] theorem State.returnFromDispatch_cfg (s : State) : (s.returnFromDispatch).cfg = s.cfg := rfl
@[simp] theorem State.returnFromDispatch_rxState (s : State) : (s.returnFromDispatch).rxState = s.afterReturn.rxState := rfl
@[simp] theorem State.returnFromDispatch_escPending (s : State) : (s.returnFromDispatch).escPending = s.escPending := rfl
@[simp] theorem State.returnFromDispatch_msgOpen (s : State) : (s.returnFromDispatch).msgOpen = false := rfl
@[simp] theorem State.returnFromDispatch_curHandler (s : State) : (s.returnFromDispatch).curHandler = none := rfl
@[simp] theorem State.returnFromDispatch_curType (s : State) : (s.returnFromDispatch).curType = none := rfl
@[simp] theorem State.returnFromDispatch_afterReturn (s : State) : (s.returnFromDispatch).afterReturn = .idle := rfl
@[simp] theorem State.returnFromDispatch_nextBusy (s : State) : (s.returnFromDispatch).nextBusy = s.nextBusy := rfl
@[simp] theorem State.returnFromDispatch_retry (s : State) : (s.returnFromDispatch).retry = s.retry := rfl
@[simp] theorem State.returnFromDispatch_txOpen (s : State) : (s.returnFromDispatch).txOpen = s.txOpen := rfl
@[simp] theorem State.returnFromDispatch_table (s : State) : (s.returnFromDispatch).table = s.table := rfl
@[simp] theorem State.returnFromDispatch_collect (s : State) : (s.returnFromDispatch).collect = s.collect := rfl
@[simp] theorem State.returnFromDispatch_rxq (s : State) : (s.returnFromDispatch).rxq = s.rxq := rfl
@[simp] theorem State.returnFromDispatch_txlog (s : State) : (s.returnFromDispatch).txlog = s.txlog := rfl
@[simp] theorem State.returnFromDispatch_disp (s : State) : (s.returnFromDispatch).disp = s.disp := rfl
@[simp] theorem State.returnFromDispatch_rsp (s : State) : (s.returnFromDispatch).rsp = s.rsp := rfl
@[simp] theorem State.returnFromDispatch_cmdq (s : State) : (s.returnFromDispatch).cmdq = s.cmdq := rfl
@[simp] theorem State.returnFromDispatch_sched (s : State) : (s.returnFromDispatch).sched = s.sched := rfl

/-! ## beginNext -/

@[simp] theorem State.beginNext_cfg (s : State) : (s.beginNext).cfg = s.cfg := rfl
@[simp] theorem State.beginNext_rxState (s : State) : (s.beginNext).rxState = s.rxState := rfl
@[simp] theorem State.beginNext_escPending (s : State) : (s.beginNext).escPending = s.escPending := rfl
@[simp] theorem State.beginNext_msgOpen (s : State) : (s.beginNext).msgOpen = s.msgOpen := rfl
@[simp] theorem State.beginNext_curHandler (s : State) : (s.beginNext).curHandler = s.curHandler := rfl
@[simp] theorem State.beginNext_curType (s : State) : (s.beginNext).curType = s.curType := rfl
@[simp] theorem State.beginNext_afterReturn (s : State) : (s.beginNext).afterReturn = s.afterReturn := rfl
@[simp] theorem State.beginNext_nextBusy (s : State) : (s.beginNext).nextBusy = true := rfl
@[simp] theorem State.beginNext_retry (s : State) : (s.beginNext).retry = 0 := rfl
@[simp] theorem State.beginNext_txOpen (s : State) : (s.beginNext).txOpen = s.txOpen := rfl
@[simp] theorem State.beginNext_table (s : State) : (s.beginNext).table = s.table := rfl
@[simp] theorem State.beginNext_collect (s : State) : (s.beginNext).collect = s.collect := rfl
@[simp] theorem State.beginNext_rxq (s : State) : (s.beginNext).rxq = s.rxq := rfl
@[simp] theorem State.beginNext_txlog (s : State) : (s.beginNext).txlog = s.txlog := rfl
@[simp] theorem State.beginNext_disp (s : State) : (s.beginNext).disp = s.disp := rfl
@[simp] theorem State.beginNext_rsp (s : State) : (s.beginNext).rsp = s.rsp := rfl
@[simp] theorem State.beginNext_cmdq (s : State) : (s.beginNext).cmdq = s.cmdq := rfl
@[simp] theorem State.beginNext_sched (s : State) : (s.beginNext).sched = s.sched := rfl

/-! ## finishNext -/

@[simp] theorem State.finishNext_cfg (s : State) (st : Status) (d : Byte) : (s.finishNext st d).cfg = s.cfg := rfl
@[simp] theorem State.finishNext_rxState (s : State) (st : Status) (d : Byte) : (s.finishNext st d).rxState = s.rxState := rfl
@[simp] theorem State.finishNext_escPending (s : State) (st : Status) (d : Byte) : (s.finishNext st d).escPending = s.escPending := rfl
@[simp] theorem State.finishNext_msgOpen (s : State) (st : Status) (d : Byte) : (s.finishNext st d).msgOpen = s.msgOpen := rfl
@[simp] theorem State.finishNext_curHandler (s : State) (st : Status) (d : Byte) : (s.finishNext st d).curHandler = s.curHandler := rfl
@[simp] theorem State.finishNext_curType (s : State) (st : Status) (d : Byte) : (s.finishNext st d).curType = s.curType := rfl
@[simp] theorem State.finishNext_afterReturn (s : State) (st : Status) (d : Byte) : (s.finishNext st d).afterReturn = s.afterReturn := rfl
@[simp] theorem State.finishNext_nextBusy (s : State) (st : Status) (d : Byte) : (s.finishNext st d).nextBusy = false := rfl
@[simp] theorem State.finishNext_retry (s : State) (st : Status) (d : Byte) : (s.finishNext st d).retry = 0 := rfl
@[simp] theorem State.finishNext_txOpen (s : State) (st : Status) (d : Byte) : (s.finishNext st d).txOpen = s.txOpen := rfl
@[simp] theorem State.finishNext_table (s : State) (st : Status) (d : Byte) : (s.finishNext st d).table = s.table := rfl
@[simp] theorem State.finishNext_collect (s : State) (st : Status) (d : Byte) : (s.finishNext st d).collect = s.collect := rfl
@[simp] theorem State.finishNext_rxq (s : State) (st : Status) (d : Byte) : (s.finishNext st d).rxq = s.rxq := rfl
@[simp] theorem State.finishNext_txlog (s : State) (st : Status) (d : Byte) : (s.finishNext st d).txlog = s.txlog := rfl
@[simp] theorem State.finishNext_disp (s : State) (st : Status) (d : Byte) : (s.finishNext st d).disp = s.disp := rfl
@[simp] theorem State.finishNext_rsp (s : State) (st : Status) (d : Byte) : (s.finishNext st d).rsp = s.rsp ++ [⟨okCursor st, st, d⟩] := rfl
@[simp] theorem State.finishNext_cmdq (s : State) (st : Status) (d : Byte) : (s.finishNext st d).cmdq = s.cmdq := rfl
@[simp] theorem State.finishNext_sched (s : State) (st : Status) (d : Byte) : (s.finishNext st d).sched = s.sched := rfl

/-! ## takeWord -/

@[simp] theorem State.takeWord_cfg (s : State) : (s.takeWord).cfg = s.cfg := rfl
@[simp] theorem State.takeWord_rxState (s : State) : (s.takeWord).rxState = s.rxState := rfl
@[simp] theorem State.takeWord_escPending (s : State) : (s.takeWord).escPending = s.escPending := rfl
@[simp] theorem State.takeWord_msgOpen (s : State) : (s.takeWord).msgOpen = s.msgOpen := rfl
@[simp] theorem State.takeWord_curHandler (s : State) : (s.takeWord).curHandler = s.curHandler := rfl
@[simp] theorem State.takeWord_curType (s : State) : (s.takeWord).curType = s.curType := rfl
@[simp] theorem State.takeWord_afterReturn (s : State) : (s.takeWord).afterReturn = s.afterReturn := rfl
@[simp] theorem State.takeWord_nextBusy (s : State) : (s.takeWord).nextBusy = s.nextBusy := rfl
@[simp] theorem State.takeWord_retry (s : State) : (s.takeWord).retry = s.retry := rfl
@[simp] theorem State.takeWord_txOpen (s : State) : (s.takeWord).txOpen = s.txOpen := rfl
@[simp] theorem State.takeWord_table (s : State) : (s.takeWord).table = s.table := rfl
@[simp] theorem State.takeWord_collect (s : State) : (s.takeWord).collect = s.collect := rfl
@[simp] theorem State.takeWord_rxq (s : State) : (s.takeWord).rxq = s.rxq := rfl
@[simp] theorem State.takeWord_txlog (s : State) : (s.takeWord).txlog = s.txlog := rfl
@[simp] theorem State.takeWord_disp (s : State) : (s.takeWord).disp = s.disp := rfl
@[simp] theorem State.takeWord_rsp (s : State) : (s.takeWord).rsp = s.rsp := rfl
@[simp] theorem State.takeWord_cmdq (s : State) : (s.takeWord).cmdq = s.cmdq.tail := rfl
@[simp] theorem State.takeWord_sched (s : State) : (s.takeWord).sched = s.sched := rfl

/-! ## resetBlock -/

@[simp] theorem State.resetBlock_cfg (s : State) : (s.resetBlock).cfg = s.cfg := rfl
@[simp] theorem State.resetBlock_rxState (s : State) : (s.resetBlock).rxState = .idle := rfl
@[simp] theorem State.resetBlock_escPending (s : State) : (s.resetBlock).escPending = false := rfl
@[simp] theorem State.resetBlock_msgOpen (s : State) : (s.resetBlock).msgOpen = false := rfl
@[simp] theorem State.resetBlock_curHandler (s : State) : (s.resetBlock).curHandler = none := rfl
@[simp] theorem State.resetBlock_curType (s : State) : (s.resetBlock).curType = none := rfl
@[simp] theorem State.resetBlock_afterReturn (s : State) : (s.resetBlock).afterReturn = .idle := rfl
@[simp] theorem State.resetBlock_nextBusy (s : State) : (s.resetBlock).nextBusy = false := rfl
@[simp] theorem State.resetBlock_retry (s : State) : (s.resetBlock).retry = 0 := rfl
@[simp] theorem State.resetBlock_txOpen (s : State) : (s.resetBlock).txOpen = false := rfl
@[simp] theorem State.resetBlock_table (s : State) : (s.resetBlock).table = List.replicate s.cfg.nTypes none := rfl
@[simp] theorem State.resetBlock_collect (s : State) : (s.resetBlock).collect = none := rfl
@[simp] theorem State.resetBlock_rxq (s : State) : (s.resetBlock).rxq = s.rxq := rfl
@[simp] theorem State.resetBlock_txlog (s : State) : (s.resetBlock).txlog = s.txlog := rfl
@[simp] theorem State.resetBlock_disp (s : State) : (s.resetBlock).disp = s.disp := rfl
@[simp] theorem State.resetBlock_rsp (s : State) : (s.resetBlock).rsp = s.rsp := rfl
@[simp] theorem State.resetBlock_cmdq (s : State) : (s.resetBlock).cmdq = s.cmdq := rfl
@[simp] theorem State.resetBlock_sched (s : State) : (s.resetBlock).sched = s.sched := rfl

end Sys2Proof.Machine
end

