-- ==== Sys2Proof/Laws/Ops.lean ====
section
/-! SUPPORT. For each shared operation, what it can do, said once: the configuration check, the table, token guard, command port, the HAS_NEXT
loop, the dispatcher, and the lists that `enc`, `openBytes` and `frame` make. -/

namespace Sys2Proof.Machine

/-! ## Configuration -/

theorem config_wf_iff (c : Config) :
    c.wf = true ↔ c.literal ≠ START ∧ c.literal ≠ END ∧ 1 ≤ c.nTypes ∧ c.nTypes ≤ 256 ∧ 1 ≤ c.retryBudget := by
  simp [Config.wf, and_assoc]

theorem isMalformed_iff (cfg : Config) (c : Byte) :
    isMalformed cfg c = true ↔ c ≠ START ∧ c ≠ END ∧ c ≠ cfg.literal := by
  simp [isMalformed, and_assoc]

theorem isMalformed_eq_malformedCode (cfg : Config) (c : Byte) : isMalformed cfg c = cfg.malformedCode c := rfl

@[simp] theorem start_ne_end : START ≠ END := by decide

@[simp] theorem end_ne_start : END ≠ START := by decide

/-! ## The ok bit and the data byte -/

@[simp] theorem okCursor_ok : okCursor .ok = true := rfl
@[simp] theorem okCursor_closed : okCursor .closed = true := rfl
@[simp] theorem okCursor_timeout : okCursor .timeout = true := rfl
@[simp] theorem okCursor_notOpen : okCursor .notOpen = false := rfl
@[simp] theorem okCommand_ok : okCommand .ok = true := rfl
@[simp] theorem okCommand_sendOpen : okCommand .sendOpen = false := rfl
@[simp] theorem okCommand_noSend : okCommand .noSend = false := rfl
@[simp] theorem okCommand_notOpen : okCommand .notOpen = false := rfl
@[simp] theorem okCommand_illegal : okCommand .illegal = false := rfl
@[simp] theorem okCommand_range : okCommand .range = false := rfl
@[simp] theorem boolData_true : boolData true = 0x01#8 := rfl
@[simp] theorem boolData_false : boolData false = 0x00#8 := rfl

/-! ## Token guard -/

/-- A token row that answers a next state found its context, and did RxRead and its effect. -/
theorem onToken_eq_next {r : Reader} {esc : Bool} {b : Byte} {operandOk : Bool} {s u : State} {f : State → State}
    (h : onToken r esc b operandOk s f = .next u) :
    s.reads r = true ∧ s.escPending = esc ∧ (∃ q, s.rxq = b :: q) ∧ operandOk = true ∧ u = f s.rxRead := by
  unfold onToken at h
  split at h
  · rename_i hg
    simp only [Bool.and_eq_true, beq_iff_eq] at hg
    obtain ⟨⟨⟨h1, h2⟩, h3⟩, h4⟩ := hg
    refine ⟨h1, h2, ?_, h4, (Host.Outcome.next.inj h).symm⟩
    cases hq : s.rxq with
    | nil => simp [hq] at h3
    | cons a q => simp [hq] at h3; exact ⟨q, by simp [h3]⟩
  · cases h

/-- In its context a token row acts. -/
theorem onToken_of_context {r : Reader} {esc : Bool} {b : Byte} {operandOk : Bool} {s : State} {f : State → State}
    {q : List Byte} (hr : s.reads r = true) (he : s.escPending = esc) (hq : s.rxq = b :: q) (ho : operandOk = true) :
    onToken r esc b operandOk s f = .next (f { s with rxq := q }) := by
  simp [onToken, hr, he, hq, ho, State.rxRead]

/-! ## The command port -/

theorem onCommand_busy {s : State} (f : State → State) (h : s.nextBusy = true) : onCommand s f = .next s := by
  simp [onCommand, h]

theorem onCommand_ready {s : State} (f : State → State) (h : s.nextBusy = false) :
    onCommand s f = .next (f s.interruptGather) := by
  simp [onCommand, h]

theorem onDataBeat_ready {s : State} (f : State → State) (h : s.nextBusy = false) : onDataBeat s f = .next (f s) := by
  simp [onDataBeat, h]

theorem interruptGather_none {s : State} (h : s.collect = none) : s.interruptGather = s := by
  simp [State.interruptGather, h]

theorem interruptGather_some {s : State} {c : Collect} (h : s.collect = some c) :
    s.interruptGather = { s with collect := none, rsp := s.rsp ++ [⟨false, .illegal, 0x00#8⟩] } := by
  simp only [State.interruptGather, h]; rfl

/-- Whatever an interrupt does, it touches the gather and the responses only. -/
theorem interruptGather_eq (s : State) :
    s.interruptGather = { s with collect := none, rsp := s.interruptGather.rsp } := by
  cases h : s.collect with
  | none => rw [interruptGather_none h]; cases s; simp_all
  | some c => rw [interruptGather_some h]

/-- A command that answers a next state waited, or acted once on the state after any interrupt. -/
theorem onCommand_eq_next {s u : State} {f : State → State} (h : onCommand s f = .next u) :
    s.nextBusy = true ∧ u = s ∨ s.nextBusy = false ∧ u = f s.interruptGather := by
  cases hb : s.nextBusy
  · rw [onCommand_ready f hb] at h; exact .inr ⟨rfl, (Host.Outcome.next.inj h).symm⟩
  · rw [onCommand_busy f hb] at h; exact .inl ⟨rfl, (Host.Outcome.next.inj h).symm⟩

/-! ## The table -/

theorem inRange_iff (cfg : Config) (t : Byte) : inRange cfg t = true ↔ t.toNat < cfg.nTypes := by
  simp [inRange]

theorem tableWf_iff (s : State) : s.tableWf = true ↔ s.table.length = s.cfg.nTypes := by
  simp [State.tableWf]

theorem lookup_eq_some_iff (s : State) (t : Byte) (h : HandlerId) :
    s.lookup t = some h ↔ t.toNat < s.cfg.nTypes ∧ s.table[t.toNat]? = some (some h) := by
  unfold State.lookup
  by_cases ht : t.toNat < s.cfg.nTypes
  · cases hx : s.table[t.toNat]? <;> simp [inRange, ht, List.getD_eq_getElem?_getD, hx]
  · simp [inRange, ht]

/-- A lookup reads the configuration and the table only. -/
theorem lookup_congr {s u : State} (hc : u.cfg = s.cfg) (ht : u.table = s.table) (t : Byte) :
    u.lookup t = s.lookup t := by
  unfold State.lookup; rw [hc, ht]

theorem lookup_tableWrite (s : State) (t v : Byte) (h : HandlerId) (hw : s.tableWf = true)
    (ht : t.toNat < s.cfg.nTypes) : (s.tableWrite t h).lookup v = if v = t then some h else s.lookup v := by
  have hl : t.toNat < s.table.length := by rw [(tableWf_iff s).1 hw]; exact ht
  by_cases hv : v = t
  · subst hv; simp [State.lookup, inRange, ht, List.getD_eq_getElem?_getD, hl]
  · have hn : t.toNat ≠ v.toNat := fun e => hv (BitVec.eq_of_toNat_eq e.symm)
    simp [State.lookup, List.getD_eq_getElem?_getD, List.getElem?_set_ne hn, hv]

/-- The table operations keep the table's form. -/
theorem tableWf_tableWrite (s : State) (t : Byte) (h : HandlerId) : (s.tableWrite t h).tableWf = s.tableWf := by
  simp [State.tableWf]

theorem tableWf_resetBlock (s : State) : s.resetBlock.tableWf = true := by simp [State.tableWf]

theorem tableWf_launch (cfg : Config) (q : List Byte) : (State.launch cfg q).tableWf = true := by
  simp [State.tableWf, State.launch]

/-- The dispatcher's two outcomes. -/
theorem typeDecoded_eq (s : State) (t : Byte) :
    (∃ h, s.lookup t = some h ∧ s.typeDecoded t = s.dispatchTo h t) ∨
      (s.lookup t = none ∧ s.typeDecoded t = s.setRxState .idle) := by
  unfold State.typeDecoded
  cases h : s.lookup t with
  | none => exact .inr ⟨rfl, rfl⟩
  | some x => exact .inl ⟨x, rfl, rfl⟩

/-! ## The HAS_NEXT loop -/

/-- What the loop can do: consume bytes from the head, move the three fields of the cursor, and answer once with data 0 or 1. -/
theorem hasNextLoop_effect (q : List Byte) (s : State) (hq : s.rxq = q) :
    ∃ used e m a st d, q = used ++ (hasNextLoop q s).rxq ∧ (st = .ok ∨ st = .closed) ∧ (d = 0x00#8 ∨ d = 0x01#8) ∧
      hasNextLoop q s =
        { s with
          escPending := e, msgOpen := m, afterReturn := a, rxq := (hasNextLoop q s).rxq
          rsp := s.rsp ++ [⟨true, st, d⟩] } := by
  induction q generalizing s with
  | nil =>
    unfold hasNextLoop
    split
    · exact ⟨[], s.escPending, s.msgOpen, s.afterReturn, .closed, 0x00#8, by simp [hq], by simp, by simp, rfl⟩
    · exact ⟨[], s.escPending, s.msgOpen, s.afterReturn, .ok, 0x00#8, by simp [hq], by simp, by simp, rfl⟩
  | cons b q ih =>
    have step : ∀ v : State, v.rxq = q → (∃ e m a, v = { s with escPending := e, msgOpen := m, afterReturn := a, rxq := q }) →
        ∃ used e m a st d, b :: q = used ++ (hasNextLoop q v).rxq ∧ (st = .ok ∨ st = .closed) ∧
          (d = 0x00#8 ∨ d = 0x01#8) ∧
          hasNextLoop q v =
            { s with
              escPending := e, msgOpen := m, afterReturn := a, rxq := (hasNextLoop q v).rxq
              rsp := s.rsp ++ [⟨true, st, d⟩] } := by
      rintro v hv ⟨e0, m0, a0, rfl⟩
      obtain ⟨used, e, m, a, st, d, h1, h2, h3, h4⟩ := ih _ hv
      exact ⟨b :: used, e, m, a, st, d, by rw [List.cons_append, ← h1], h2, h3, h4⟩
    have stay : ∀ st d, (st = .ok ∨ st = .closed) → (d = 0x00#8 ∨ d = 0x01#8) → okCursor st = true →
        ∃ used e m a st' d', b :: q = used ++ (s.respondCursor st d).rxq ∧ (st' = .ok ∨ st' = .closed) ∧
          (d' = 0x00#8 ∨ d' = 0x01#8) ∧
          s.respondCursor st d =
            { s with
              escPending := e, msgOpen := m, afterReturn := a, rxq := (s.respondCursor st d).rxq
              rsp := s.rsp ++ [⟨true, st', d'⟩] } := by
      intro st d h1 h2 h3
      refine ⟨[], s.escPending, s.msgOpen, s.afterReturn, st, d, by simp [hq], h1, h2, ?_⟩
      simp [State.respondCursor, State.respond, h3]
    have ht : s.rxRead.rxq = q := by simp [hq]
    unfold hasNextLoop
    split
    · exact stay _ _ (by simp) (by simp) rfl
    split
    · split
      · exact stay _ _ (by simp) (by simp) rfl
      · exact step _ ht ⟨true, s.msgOpen, s.afterReturn, by simp [State.rxRead, State.setEsc, hq]⟩
    split
    · exact stay _ _ (by simp) (by simp) rfl
    split
    · exact step _ ht ⟨false, false, s.afterReturn, by simp [State.rxRead, State.setEsc, State.closeMessage, hq]⟩
    split
    · exact step _ ht ⟨false, false, .awaitType, by simp [State.rxRead, State.setEsc, State.cutMessage, hq]⟩
    · exact step _ ht ⟨false, s.msgOpen, s.afterReturn, by simp [State.rxRead, State.setEsc, hq]⟩

/-! ## Wire bytes -/

theorem enc_esc (cfg : Config) : enc cfg cfg.esc = [cfg.esc, cfg.literal] := by simp [enc]

theorem enc_of_ne {cfg : Config} {v : Byte} (h : v ≠ cfg.esc) : enc cfg v = [v] := by simp [enc, h]

theorem enc_length (cfg : Config) (v : Byte) : (enc cfg v).length = if v = cfg.esc then 2 else 1 := by
  unfold enc; split <;> simp

theorem openBytes_eq (cfg : Config) (t : Byte) : openBytes cfg t = cfg.esc :: START :: enc cfg t := rfl

theorem openBytes_length (cfg : Config) (t : Byte) : (openBytes cfg t).length = (enc cfg t).length + 2 := by
  simp [openBytes]

theorem frame_eq (cfg : Config) (t : Byte) (bs : List Byte) :
    frame cfg t bs = openBytes cfg t ++ bs.flatMap (enc cfg) ++ closeBytes cfg := rfl

end Sys2Proof.Machine
end

