-- ==== Sys2Proof/Laws/Decode.lean ====
section
/-! SUPPORT. The fields of a command word, and the tokens of the bytes the encoder writes. -/

namespace Sys2Proof

/-! ## Command words -/

@[simp] theorem opField_wordOf (op a : Byte) (b : BitVec 16) : opField (wordOf op a b) = op := by
  unfold opField wordOf
  ext i hi
  rw [BitVec.getElem_extractLsb']
  show (((op ++ a : BitVec (8 + 8)) ++ b : BitVec (8 + 8 + 16))).getLsbD (24 + i) = _
  rw [BitVec.getLsbD_append, BitVec.getLsbD_append, if_neg (by omega), if_neg (by omega), ← BitVec.getLsbD_eq_getElem]
  congr 1; omega

@[simp] theorem aField_wordOf (op a : Byte) (b : BitVec 16) : aField (wordOf op a b) = a := by
  unfold aField wordOf
  ext i hi
  rw [BitVec.getElem_extractLsb']
  show (((op ++ a : BitVec (8 + 8)) ++ b : BitVec (8 + 8 + 16))).getLsbD (16 + i) = _
  rw [BitVec.getLsbD_append, BitVec.getLsbD_append, if_neg (by omega), if_pos (by omega), ← BitVec.getLsbD_eq_getElem]
  congr 1; omega

@[simp] theorem bField_wordOf (op a : Byte) (b : BitVec 16) : bField (wordOf op a b) = b := by
  unfold bField wordOf
  ext i hi
  rw [BitVec.getElem_extractLsb']
  show (((op ++ a : BitVec (8 + 8)) ++ b : BitVec (8 + 8 + 16))).getLsbD (0 + i) = _
  rw [BitVec.getLsbD_append, if_pos (by omega), ← BitVec.getLsbD_eq_getElem]
  congr 1; omega

/-- A word is its fields (R80). -/
theorem wordOf_fields (w : CmdWord) : wordOf (opField w) (aField w) (bField w) = w := by
  unfold wordOf opField aField bField
  ext i hi
  rw [← BitVec.getLsbD_eq_getElem]
  show (((_ ++ _ : BitVec (8 + 8)) ++ _ : BitVec (8 + 8 + 16))).getLsbD i = _
  rw [BitVec.getLsbD_append, BitVec.getLsbD_append]
  simp only [BitVec.getLsbD_extractLsb']
  split
  · simp_all
  split
  · rw [show 16 + (i - 16) = i by omega, show decide (i - 16 < 8) = true by simp; omega]
    simp [BitVec.getLsbD_eq_getElem hi]
  · rw [show 24 + (i - 16 - 8) = i by omega, show decide (i - 16 - 8 < 8) = true by simp; omega]
    simp [BitVec.getLsbD_eq_getElem hi]

/-- The mask of R81 to R90 keeps OP alone. -/
theorem wordOf_and_opMask (op a : Byte) (b : BitVec 16) : wordOf op a b &&& 0xFF000000#32 = wordOf op 0#8 0#16 := by
  unfold wordOf
  ext i hi
  rw [BitVec.getElem_and, ← BitVec.getLsbD_eq_getElem, ← BitVec.getLsbD_eq_getElem, ← BitVec.getLsbD_eq_getElem]
  show ((((_ ++ _ : BitVec (8 + 8)) ++ _ : BitVec (8 + 8 + 16))).getLsbD i && _) =
    (((_ ++ _ : BitVec (8 + 8)) ++ _ : BitVec (8 + 8 + 16))).getLsbD i
  rw [BitVec.getLsbD_append, BitVec.getLsbD_append, BitVec.getLsbD_append, BitVec.getLsbD_append]
  have hm : ∀ i < 32, (0xFF000000#32).getLsbD i = decide (24 ≤ i) := by decide
  rw [hm i hi]
  split
  · simp; intros; omega
  split
  · simp; intros; omega
  · simp; intros; omega

/-- The mask of OP and A drops field B alone. -/
theorem wordOf_and_opAMask (op a : Byte) (b : BitVec 16) : wordOf op a b &&& 0xFFFF0000#32 = wordOf op a 0#16 := by
  unfold wordOf
  ext i hi
  rw [BitVec.getElem_and, ← BitVec.getLsbD_eq_getElem, ← BitVec.getLsbD_eq_getElem, ← BitVec.getLsbD_eq_getElem]
  show ((((_ ++ _ : BitVec (8 + 8)) ++ _ : BitVec (8 + 8 + 16))).getLsbD i && _) =
    (((_ ++ _ : BitVec (8 + 8)) ++ _ : BitVec (8 + 8 + 16))).getLsbD i
  rw [BitVec.getLsbD_append, BitVec.getLsbD_append, BitVec.getLsbD_append]
  have hm : ∀ i < 32, (0xFFFF0000#32).getLsbD i = decide (16 ≤ i) := by decide
  rw [hm i hi]
  split
  · simp; intros; omega
  · rw [decide_eq_true (by omega : 16 ≤ i), Bool.and_true, BitVec.getLsbD_append]

/-! ## Wire tokens -/

theorem codeToken_literal {cfg : Config} (hw : cfg.wf = true) : codeToken cfg cfg.literal = .literal := by
  obtain ⟨h1, h2, -⟩ := (Machine.config_wf_iff cfg).1 hw
  simp [codeToken, h1, h2]

/-- A token at the front of a byte sequence is read whole (R71). -/
theorem tokenize_token_append {cfg : Config} (hw : cfg.wf = true) (k : Token) (hk : k.wf cfg = true) (bs : List Byte) :
    tokenize cfg false (k.bytes cfg ++ bs) = (k :: (tokenize cfg false bs).1, (tokenize cfg false bs).2) := by
  cases k with
  | ord b => simp_all [Token.bytes, tokenize, Token.wf]
  | start => simp [Token.bytes, tokenize, codeToken]
  | stop => simp [Token.bytes, tokenize, codeToken]
  | literal => simp [Token.bytes, tokenize, codeToken_literal hw]
  | bad c => simp_all [Token.bytes, tokenize, Token.wf, Config.malformedCode, codeToken]

/-- The token that carries a data byte (R74). -/
def dataToken (cfg : Config) (v : Byte) : Token := if v = cfg.esc then .literal else .ord v

theorem dataToken_wf (cfg : Config) (v : Byte) : (dataToken cfg v).wf cfg = true := by
  unfold dataToken; split <;> simp_all [Token.wf]

theorem dataToken_bytes (cfg : Config) (v : Byte) : (dataToken cfg v).bytes cfg = Machine.enc cfg v := by
  unfold dataToken Machine.enc; split <;> simp [Token.bytes]

theorem dataToken_data (cfg : Config) (v : Byte) : (dataToken cfg v).data cfg = some v := by
  unfold dataToken; split <;> simp_all [Token.data]

end Sys2Proof
end

