-- ==== Sys2Proof/Laws/PerInstr.lean ====
section
/-! SUPPORT. The laws made per instruction. `UnusedBitsZero`: the word that encodes a command has zeros in every bit the command does not use
(R80, "should-be-zero"); a wire row is no word, so it meets it with nothing to show. -/

namespace Sys2Proof.Laws.UnusedBitsZero

open Sys2Proof

/-- The encoding of `i`, where it is a command word, sets no bit outside the fields `i` uses. -/
def Statement (i : Instr) : Prop :=
  ∀ (cfg : Config) (w : CmdWord), encode cfg i = .word w → w &&& usedBits i = w

theorem rxIdleOrd (d : Byte) : Statement (.rxIdleOrd d) := fun _ _ h => nomatch h
theorem rxIdleEsc : Statement .rxIdleEsc := fun _ _ h => nomatch h
theorem rxIdleEscEnd : Statement .rxIdleEscEnd := fun _ _ h => nomatch h
theorem rxIdleEscStart : Statement .rxIdleEscStart := fun _ _ h => nomatch h
theorem rxIdleEscLiteral : Statement .rxIdleEscLiteral := fun _ _ h => nomatch h
theorem rxIdleEscOther (c : Byte) : Statement (.rxIdleEscOther c) := fun _ _ h => nomatch h
theorem rxAwaitType (t : Byte) : Statement (.rxAwaitType t) := fun _ _ h => nomatch h
theorem rxAwaitEsc : Statement .rxAwaitEsc := fun _ _ h => nomatch h
theorem rxAwaitEscLiteral : Statement .rxAwaitEscLiteral := fun _ _ h => nomatch h
theorem rxAwaitEscStart : Statement .rxAwaitEscStart := fun _ _ h => nomatch h
theorem rxAwaitEscEnd : Statement .rxAwaitEscEnd := fun _ _ h => nomatch h
theorem rxAwaitEscOther (c : Byte) : Statement (.rxAwaitEscOther c) := fun _ _ h => nomatch h
theorem curOrd (d : Byte) : Statement (.curOrd d) := fun _ _ h => nomatch h
theorem curEsc : Statement .curEsc := fun _ _ h => nomatch h
theorem curEscLiteral : Statement .curEscLiteral := fun _ _ h => nomatch h
theorem curEscStart : Statement .curEscStart := fun _ _ h => nomatch h
theorem curEscOther (c : Byte) : Statement (.curEscOther c) := fun _ _ h => nomatch h
theorem curEscEnd : Statement .curEscEnd := fun _ _ h => nomatch h
theorem curEmpty : Statement .curEmpty := fun _ _ h => nomatch h

theorem beginSend (t : Byte) : Statement (.beginSend t) := by
  rintro cfg w ⟨⟩
  exact wordOf_and_opAMask _ _ _
theorem sendByte (b : Byte) : Statement (.sendByte b) := by
  rintro cfg w ⟨⟩
  exact wordOf_and_opAMask _ _ _
theorem endSend : Statement .endSend := by
  rintro cfg w ⟨⟩
  exact wordOf_and_opMask _ _ _
theorem send (t : Byte) : Statement (.send t) := by
  rintro cfg w ⟨⟩
  exact wordOf_and_opAMask _ _ _
theorem sendBuf (t : Byte) (l : BitVec 16) : Statement (.sendBuf t l) := by
  rintro cfg w ⟨⟩
  exact BitVec.and_allOnes
theorem sendBufData (b : Byte) : Statement (.sendBufData b) := by
  rintro cfg w ⟨⟩
  exact wordOf_and_opAMask _ _ _
theorem register (t : Byte) (h : HandlerId) : Statement (.register t h) := by
  rintro cfg w ⟨⟩
  exact BitVec.and_allOnes
theorem hasNext : Statement .hasNext := by
  rintro cfg w ⟨⟩
  exact wordOf_and_opMask _ _ _
theorem next : Statement .next := by
  rintro cfg w ⟨⟩
  exact wordOf_and_opMask _ _ _
theorem ret : Statement .ret := by
  rintro cfg w ⟨⟩
  exact wordOf_and_opMask _ _ _
theorem reserved (op : Byte) : Statement (.reserved op) := by
  rintro cfg w ⟨⟩
  exact wordOf_and_opMask _ _ _

end Sys2Proof.Laws.UnusedBitsZero
end

