-- ==== Sys2Proof/Laws/Step.lean ====
section
/-! SUPPORT. What a step can do, said once, and how a schedule unfolds. -/

namespace Sys2Proof.Machine

/-- A step either waits with no move left, or runs the instruction its move fetches, or does what the outside does. -/
theorem step_cases {s u : State} (h : step s = .next u) :
    s.cfg.wf = true ∧
      ((s.sched = [] ∧ u = s) ∨
        ∃ m ms, s.sched = m :: ms ∧
          ((∃ beat t, ({ s with sched := ms } : State).fetch m = some (beat, t) ∧
              exec (decode s.cfg beat) t = .next u) ∨
            (({ s with sched := ms } : State).fetch m = none ∧ u = ({ s with sched := ms } : State).outside m))) := by
  unfold step at h
  split at h
  · rename_i hw
    refine ⟨hw, ?_⟩
    split at h
    · rename_i hs; exact .inl ⟨hs, (Host.Outcome.next.inj h).symm⟩
    · rename_i m ms hs
      refine .inr ⟨m, ms, hs, ?_⟩
      split at h
      · rename_i beat t hf; exact .inl ⟨beat, t, hf, h⟩
      · rename_i hf; exact .inr ⟨hf, (Host.Outcome.next.inj h).symm⟩
  · cases h

/-- A scheduled move that fetches a beat runs the instruction the beat stands for. -/
theorem step_of_fetch {s t : State} {m : Move} {ms : List Move} {beat : Beat} (hw : s.cfg.wf = true)
    (hf : ({ s with sched := ms } : State).fetch m = some (beat, t)) :
    step { s with sched := m :: ms } = exec (decode s.cfg beat) t := by
  simp [step, hw, hf]

/-- A scheduled move that fetches nothing does what the outside does. -/
theorem step_of_no_fetch {s : State} {m : Move} {ms : List Move} (hw : s.cfg.wf = true)
    (hf : ({ s with sched := ms } : State).fetch m = none) :
    step { s with sched := m :: ms } = .next (({ s with sched := ms } : State).outside m) := by
  simp [step, hw, hf]

/-- Where a move's beat comes from. -/
theorem fetch_cases {s t : State} {m : Move} {beat : Beat} (h : s.fetch m = some (beat, t)) :
    (m = .engine ∧ t = s ∧ s.rxState = .idle ∧ ∃ b q, s.rxq = b :: q ∧ beat = .byte .idle s.escPending b) ∨
    (m = .engine ∧ t = s ∧ s.rxState = .awaitType ∧ ∃ b q, s.rxq = b :: q ∧ beat = .byte .awaitType s.escPending b) ∨
    (m = .poll ∧ t = s ∧ s.nextBusy = true ∧ ∃ b q, s.rxq = b :: q ∧ beat = .byte .poll s.escPending b) ∨
    (m = .poll ∧ t = s ∧ s.nextBusy = true ∧ s.rxq = [] ∧ beat = .empty) ∨
    (m = .host ∧ s.nextBusy = false ∧ ∃ w ws, s.cmdq = w :: ws ∧ beat = .word w ∧ t = { s with cmdq := ws }) := by
  cases m with
  | arrive bs => simp [State.fetch] at h
  | reset => simp [State.fetch] at h
  | engine =>
    simp only [State.fetch, State.fetchEngine] at h
    split at h
    all_goals first | (simp at h; done) | (simp at h; obtain ⟨rfl, rfl⟩ := h; simp_all)
  | poll =>
    simp only [State.fetch, State.fetchPoll] at h
    split at h
    · split at h <;> (simp at h; obtain ⟨rfl, rfl⟩ := h; simp_all)
    · simp at h
  | host =>
    simp only [State.fetch, State.fetchHost] at h
    split at h
    · simp at h
    · rename_i hb
      cases hc : s.cmdq with
      | nil => simp [hc] at h
      | cons w ws =>
        simp [hc] at h
        obtain ⟨rfl, rfl⟩ := h
        refine .inr (.inr (.inr (.inr ⟨rfl, by simpa using hb, w, ws, rfl, rfl, ?_⟩)))
        simp [State.takeWord, hc]

/-! ## Schedules -/

theorem drive_nil (s : State) : drive [] s = .next { s with sched := [] } := rfl

/-- One step of a run, then the rest. -/
theorem run_of_next (M : Host.Core) (n : Nat) (s u : M.State) (h : M.step s = .next u) :
    M.run (n + 1) s = M.run n u := by
  simp [Host.Core.run, h]

/-- A run splits: what its first part answers runs on. -/
theorem run_add (M : Host.Core) (n k : Nat) (s u : M.State) (h : M.run n s = .next u) :
    M.run (n + k) s = M.run k u := by
  induction n generalizing s with
  | zero => cases h; rw [Nat.zero_add]
  | succ n ih =>
    simp only [Host.Core.run] at h
    cases hs : M.step s with
    | next t =>
      rw [hs] at h
      rw [Nat.succ_add, run_of_next M (n + k) s t hs]
      exact ih t h
    | fault r => rw [hs] at h; cases h
    | refused r => rw [hs] at h; cases h

/-- The first move of a schedule, then the rest of it. -/
theorem drive_cons {s u : State} {m : Move} {ms : List Move}
    (h : step { s with sched := m :: ms } = .next u) (hu : u.sched = ms) : drive (m :: ms) s = drive ms u := by
  have hu' : ({ u with sched := ms } : State) = u := by cases u; cases hu; rfl
  unfold drive
  rw [hu', List.length_cons]
  exact run_of_next Sys2Proof.core _ _ _ h

/-- Schedules run one after another. -/
theorem drive_append {s u : State} (ms ns : List Move)
    (h : Sys2Proof.core.run ms.length ({ s with sched := ms ++ ns } : State) = .next u) (hu : u.sched = ns) :
    drive (ms ++ ns) s = drive ns u := by
  have hu' : ({ u with sched := ns } : State) = u := by cases u; cases hu; rfl
  unfold drive
  rw [hu', List.length_append]
  exact run_add Sys2Proof.core _ _ _ _ h

end Sys2Proof.Machine
end

