-- ==== Sys2Proof/Tests/Slice0.lean ====
section
/-! SUPPORT. The model's own tests. Expected results come from the vectors of 95_test_vectors.md (V<n>) and from the rules named beside them,
worked by hand. The last part holds a witness for the hypotheses of every statement that has some. -/

namespace Sys2Proof.Tests

open Sys2Proof Sys2Proof.Machine

/-! ## Small states -/

/-- RC1's table with Type 3 registered, and nothing else (2.4: "table[3] = some h3"). -/
def table3 : List (Option HandlerId) := [none, none, none, some 0x0101#16] ++ List.replicate 12 none

def idleAt (e : Bool) (q : List Byte) : State :=
  { State.reset with escPending := e, rxq := q, table := table3 }

def awaitAt (e : Bool) (q : List Byte) : State := { idleAt e q with rxState := .awaitType }

/-- A dispatch of Type 3 with its message open (2.5). -/
def dispAt (e : Bool) (q : List Byte) : State :=
  { idleAt e q with rxState := .dispatching, msgOpen := true, curHandler := some 0x0101#16, curType := some 0x03#8 }

/-- The same with its message closed. -/
def closedAt (q : List Byte) : State := { dispAt false q with msgOpen := false }

/-- The same with a NEXT in progress after `n` empty polls. -/
def busyAt (e : Bool) (n : Nat) (q : List Byte) : State := { dispAt e q with nextBusy := true, retry := n }

/-- Out of a dispatch, with or without an open send. -/
def sendAt (o : Bool) : State := { State.reset with txOpen := o }

/-- A SEND_BUF of Type 3 that waits for `n` more beats. -/
def gatherAt (n : Nat) (bs : List Byte) : State := { State.reset with collect := some ⟨0x03#8, n, bs⟩ }

/-- What a projection shows of a next state. -/
def look {α : Type} (f : State → α) : Out → Option α
  | .next s => some (f s)
  | .fault _ => none
  | .refused _ => none

/-- One receive-engine step. -/
def rx (s : State) : Out := step { s with sched := [.engine] }

/-- One poll. -/
def poll (s : State) : Out := step { s with sched := [.poll] }

/-- One command word on the port. -/
def cmd (w : CmdWord) (s : State) : Out := step { s with cmdq := [w], sched := [.host] }

/-- What an engine step shows. -/
structure RxView where
  rxState : RxState
  escPending : Bool
  rxq : List Byte
  disp : List (HandlerId × Byte)
  deriving DecidableEq, Repr

def rxView (s : State) : RxView := ⟨s.rxState, s.escPending, s.rxq, s.disp⟩

/-- What a cursor command or poll shows. -/
structure CurView where
  nextBusy : Bool
  msgOpen : Bool
  escPending : Bool
  retry : Nat
  rxq : List Byte
  rsp : List Response
  deriving DecidableEq, Repr

def curView (s : State) : CurView := ⟨s.nextBusy, s.msgOpen, s.escPending, s.retry, s.rxq, s.rsp⟩

/-- What a send command shows. -/
structure SendView where
  txlog : List Byte
  txOpen : Bool
  collect : Option Collect
  rsp : List Response
  deriving DecidableEq, Repr

def sendView (s : State) : SendView := ⟨s.txlog, s.txOpen, s.collect, s.rsp⟩

/-! ## What WellFormed refuses: one ill-formed term for each check -/

theorem test_wf_idleOrd_refuses_esc : (Instr.rxIdleOrd 0xAA#8).wf Config.rc1 = false := by decide
theorem test_wf_idleEscOther_refuses_start : (Instr.rxIdleEscOther 0xFF#8).wf Config.rc1 = false := by decide
theorem test_wf_idleEscOther_refuses_end : (Instr.rxIdleEscOther 0x00#8).wf Config.rc1 = false := by decide
theorem test_wf_idleEscOther_refuses_literal : (Instr.rxIdleEscOther 0x55#8).wf Config.rc1 = false := by decide
theorem test_wf_awaitType_refuses_esc : (Instr.rxAwaitType 0xAA#8).wf Config.rc1 = false := by decide
theorem test_wf_awaitEscOther_refuses_start : (Instr.rxAwaitEscOther 0xFF#8).wf Config.rc1 = false := by decide
theorem test_wf_curOrd_refuses_esc : (Instr.curOrd 0x03#8).wf Config.rc2 = false := by decide
theorem test_wf_curEscOther_refuses_literal : (Instr.curEscOther 0x55#8).wf Config.rc1 = false := by decide
theorem test_wf_reserved_refuses_assigned : (Instr.reserved 0x22#8).wf Config.rc1 = false := by decide
theorem test_wf_reserved_admits_reserved : (Instr.reserved 0x23#8).wf Config.rc1 = true := by decide
theorem test_wf_config_refuses_literal_start : ({ Config.rc1 with literal := 0xFF#8 } : Config).wf = false := by decide
theorem test_wf_config_refuses_literal_end : ({ Config.rc1 with literal := 0x00#8 } : Config).wf = false := by decide
theorem test_wf_config_refuses_no_types : ({ Config.rc1 with nTypes := 0 } : Config).wf = false := by decide
theorem test_wf_config_refuses_257_types : ({ Config.rc1 with nTypes := 257 } : Config).wf = false := by decide
theorem test_wf_config_refuses_no_budget : ({ Config.rc1 with retryBudget := 0 } : Config).wf = false := by decide
theorem test_wf_config_admits_esc_equal_to_literal : ({ Config.rc1 with literal := 0xAA#8 } : Config).wf = true := by
  decide

/-! ## Decoding: a word or byte written out from the encoding of every row -/

theorem test_decode_rxIdleOrd : decode Config.rc1 (.byte .idle false 0xFF#8) = .rxIdleOrd 0xFF#8 := by decide
theorem test_decode_rxIdleEsc : decode Config.rc1 (.byte .idle false 0xAA#8) = .rxIdleEsc := by decide
theorem test_decode_rxIdleEscEnd : decode Config.rc1 (.byte .idle true 0x00#8) = .rxIdleEscEnd := by decide
theorem test_decode_rxIdleEscStart : decode Config.rc1 (.byte .idle true 0xFF#8) = .rxIdleEscStart := by decide
theorem test_decode_rxIdleEscLiteral : decode Config.rc1 (.byte .idle true 0x55#8) = .rxIdleEscLiteral := by decide
theorem test_decode_rxIdleEscOther : decode Config.rc1 (.byte .idle true 0xAA#8) = .rxIdleEscOther 0xAA#8 := by decide
theorem test_decode_rxAwaitType : decode Config.rc1 (.byte .awaitType false 0x00#8) = .rxAwaitType 0x00#8 := by decide
theorem test_decode_rxAwaitEsc : decode Config.rc2 (.byte .awaitType false 0x03#8) = .rxAwaitEsc := by decide
theorem test_decode_rxAwaitEscLiteral : decode Config.rc2 (.byte .awaitType true 0x55#8) = .rxAwaitEscLiteral := by decide
theorem test_decode_rxAwaitEscStart : decode Config.rc1 (.byte .awaitType true 0xFF#8) = .rxAwaitEscStart := by decide
theorem test_decode_rxAwaitEscEnd : decode Config.rc1 (.byte .awaitType true 0x00#8) = .rxAwaitEscEnd := by decide
theorem test_decode_rxAwaitEscOther : decode Config.rc1 (.byte .awaitType true 0x42#8) = .rxAwaitEscOther 0x42#8 := by
  decide
theorem test_decode_curOrd : decode Config.rc1 (.byte .poll false 0x55#8) = .curOrd 0x55#8 := by decide
theorem test_decode_curEsc : decode Config.rc1 (.byte .poll false 0xAA#8) = .curEsc := by decide
theorem test_decode_curEscLiteral : decode Config.rc1 (.byte .poll true 0x55#8) = .curEscLiteral := by decide
theorem test_decode_curEscStart : decode Config.rc1 (.byte .poll true 0xFF#8) = .curEscStart := by decide
theorem test_decode_curEscOther : decode Config.rc1 (.byte .poll true 0x42#8) = .curEscOther 0x42#8 := by decide
theorem test_decode_curEscEnd : decode Config.rc1 (.byte .poll true 0x00#8) = .curEscEnd := by decide
theorem test_decode_curEmpty : decode Config.rc1 .empty = .curEmpty := by decide
theorem test_decode_beginSend : decode Config.rc1 (.word 0x01200000#32) = .beginSend 0x20#8 := by decide
theorem test_decode_sendByte : decode Config.rc1 (.word 0x02AA0000#32) = .sendByte 0xAA#8 := by decide
theorem test_decode_endSend_ignores_unused_bits : decode Config.rc1 (.word 0x0312ABCD#32) = .endSend := by decide
theorem test_decode_send : decode Config.rc1 (.word 0x04070000#32) = .send 0x07#8 := by decide
theorem test_decode_sendBuf : decode Config.rc1 (.word 0x05031234#32) = .sendBuf 0x03#8 0x1234#16 := by decide
theorem test_decode_sendBufData : decode Config.rc1 (.word 0x06420000#32) = .sendBufData 0x42#8 := by decide
theorem test_decode_register : decode Config.rc1 (.word 0x10030101#32) = .register 0x03#8 0x0101#16 := by decide
theorem test_decode_hasNext : decode Config.rc1 (.word 0x20000000#32) = .hasNext := by decide
theorem test_decode_next : decode Config.rc1 (.word 0x21000000#32) = .next := by decide
theorem test_decode_ret : decode Config.rc1 (.word 0x22000000#32) = .ret := by decide
theorem test_decode_reserved : decode Config.rc1 (.word 0xFF000000#32) = .reserved 0xFF#8 := by decide

/-- R77, V1: the frame of the source's scenario, cut into tokens. -/
theorem test_tokenize_scenario :
    tokenize Config.rc1 false [0xAA#8, 0xFF#8, 0x03#8, 0x10#8, 0xAA#8, 0x55#8, 0x20#8, 0xAA#8, 0x00#8] =
      ([.start, .ord 0x03#8, .ord 0x10#8, .literal, .ord 0x20#8, .stop], false) := by decide

/-- R70, R76: ESC ESC is malformed when LITERAL is not ESC. -/
theorem test_tokenize_malformed : tokenize Config.rc1 false [0xAA#8, 0xAA#8, 0xAA#8] = ([.bad 0xAA#8], true) := by decide

/-! ## The receive engine -/

/-- V41. -/
theorem test_rxIdleOrd : look rxView (rx (idleAt false [0xFF#8, 0x01#8])) = some ⟨.idle, false, [0x01#8], []⟩ := by decide
/-- V44. -/
theorem test_rxIdleEsc : look rxView (rx (idleAt false [0xAA#8])) = some ⟨.idle, true, [], []⟩ := by decide
/-- V45. -/
theorem test_rxIdleEscEnd : look rxView (rx (idleAt true [0x00#8])) = some ⟨.idle, false, [], []⟩ := by decide
/-- V46. -/
theorem test_rxIdleEscStart : look rxView (rx (idleAt true [0xFF#8])) = some ⟨.awaitType, false, [], []⟩ := by decide
/-- V47. -/
theorem test_rxIdleEscLiteral : look rxView (rx (idleAt true [0x55#8])) = some ⟨.idle, false, [], []⟩ := by decide
/-- V49. -/
theorem test_rxIdleEscOther : look rxView (rx (idleAt true [0xAA#8])) = some ⟨.idle, false, [], []⟩ := by decide
/-- V50. -/
theorem test_rxAwaitType_hit :
    look (fun s => (rxView s, s.msgOpen, s.curHandler, s.curType)) (rx (awaitAt false [0x03#8])) =
      some (⟨.dispatching, false, [], [(0x0101#16, 0x03#8)]⟩, true, some 0x0101#16, some 0x03#8) := by decide
/-- V52: 0x10 is the first Type out of range. -/
theorem test_rxAwaitType_out_of_range : look rxView (rx (awaitAt false [0x10#8])) = some ⟨.idle, false, [], []⟩ := by decide
/-- V54. -/
theorem test_rxAwaitEsc : look rxView (rx (awaitAt false [0xAA#8])) = some ⟨.awaitType, true, [], []⟩ := by decide
/-- V55: Type AA misses. -/
theorem test_rxAwaitEscLiteral_miss : look rxView (rx (awaitAt true [0x55#8])) = some ⟨.idle, false, [], []⟩ := by decide
/-- V59: under RC2 the escaped Type is 3. -/
theorem test_rxAwaitEscLiteral_hit :
    look rxView (rx { awaitAt true [0x55#8] with cfg := Config.rc2 }) =
      some ⟨.dispatching, false, [], [(0x0101#16, 0x03#8)]⟩ := by decide
/-- V56. -/
theorem test_rxAwaitEscStart : look rxView (rx (awaitAt true [0xFF#8])) = some ⟨.awaitType, false, [], []⟩ := by decide
/-- V57. -/
theorem test_rxAwaitEscEnd : look rxView (rx (awaitAt true [0x00#8])) = some ⟨.idle, false, [], []⟩ := by decide
/-- V58. -/
theorem test_rxAwaitEscOther : look rxView (rx (awaitAt true [0x42#8])) = some ⟨.idle, false, [], []⟩ := by decide
/-- R101: no engine step inside a dispatch. -/
theorem test_rx_none_in_dispatch :
    look rxView (rx (dispAt false [0x10#8])) = some ⟨.dispatching, false, [0x10#8], []⟩ := by decide

/-! ## NEXT polls -/

/-- V83: a genuine zero. -/
theorem test_curOrd :
    look curView (poll (busyAt false 2 [0x00#8])) = some ⟨false, true, false, 0, [], [⟨true, .ok, 0x00#8⟩]⟩ := by decide
/-- V84, first poll, and the counter of R151. -/
theorem test_curEsc :
    look curView (poll (busyAt false 2 [0xAA#8, 0x55#8])) = some ⟨true, true, true, 0, [0x55#8], []⟩ := by decide
/-- V84, second poll. -/
theorem test_curEscLiteral :
    look curView (poll (busyAt true 0 [0x55#8])) = some ⟨false, true, false, 0, [], [⟨true, .ok, 0xAA#8⟩]⟩ := by decide
/-- V87, second poll. -/
theorem test_curEscStart :
    look (fun s => (curView s, s.afterReturn)) (poll (busyAt true 0 [0xFF#8, 0x05#8])) =
      some (⟨false, false, false, 0, [0x05#8], [⟨true, .closed, 0x00#8⟩]⟩, .awaitType) := by decide
/-- V88, second poll. -/
theorem test_curEscOther :
    look curView (poll (busyAt true 0 [0x42#8, 0x20#8])) = some ⟨true, true, false, 0, [0x20#8], []⟩ := by decide
/-- V85, second poll. -/
theorem test_curEscEnd :
    look (fun s => (curView s, s.afterReturn)) (poll (busyAt true 0 [0x00#8])) =
      some (⟨false, false, false, 0, [], [⟨true, .closed, 0x00#8⟩]⟩, .idle) := by decide
/-- V93, the first empty poll. -/
theorem test_curEmpty_counts : look curView (poll (busyAt false 0 [])) = some ⟨true, true, false, 1, [], []⟩ := by decide
/-- V94: the third empty poll, in the middle of a pair. -/
theorem test_curEmpty_times_out :
    look curView (poll (busyAt true 2 [])) = some ⟨false, true, true, 0, [], [⟨true, .timeout, 0x00#8⟩]⟩ := by decide

/-! ## Commands -/

/-- V11. -/
theorem test_beginSend :
    look sendView (cmd 0x01AA0000#32 (sendAt false)) =
      some ⟨[0xAA#8, 0xFF#8, 0xAA#8, 0x55#8], true, none, [⟨true, .ok, 0x00#8⟩]⟩ := by decide
/-- V13. -/
theorem test_beginSend_open :
    look sendView (cmd 0x01040000#32 (sendAt true)) = some ⟨[], true, none, [⟨false, .sendOpen, 0x00#8⟩]⟩ := by decide
/-- V14. -/
theorem test_sendByte_esc :
    look sendView (cmd 0x02AA0000#32 (sendAt true)) = some ⟨[0xAA#8, 0x55#8], true, none, [⟨true, .ok, 0x00#8⟩]⟩ := by decide
/-- V18. -/
theorem test_sendByte_no_send :
    look sendView (cmd 0x02100000#32 (sendAt false)) = some ⟨[], false, none, [⟨false, .noSend, 0x00#8⟩]⟩ := by decide
/-- V19. -/
theorem test_endSend :
    look sendView (cmd 0x03000000#32 (sendAt true)) = some ⟨[0xAA#8, 0x00#8], false, none, [⟨true, .ok, 0x00#8⟩]⟩ := by decide
/-- V29, the third word: it interrupts the gather, then fails on its own. -/
theorem test_endSend_interrupts_gather :
    look sendView (cmd 0x03000000#32 (gatherAt 1 [0x10#8])) =
      some ⟨[], false, none, [⟨false, .illegal, 0x00#8⟩, ⟨false, .noSend, 0x00#8⟩]⟩ := by decide
/-- V21. -/
theorem test_send :
    look sendView (cmd 0x04070000#32 (sendAt false)) =
      some ⟨[0xAA#8, 0xFF#8, 0x07#8, 0xAA#8, 0x00#8], false, none, [⟨true, .ok, 0x00#8⟩]⟩ := by decide
/-- V22. -/
theorem test_send_open :
    look sendView (cmd 0x04070000#32 (sendAt true)) = some ⟨[], true, none, [⟨false, .sendOpen, 0x00#8⟩]⟩ := by decide
/-- V23. -/
theorem test_sendBuf_empty :
    look sendView (cmd 0x05070000#32 (sendAt false)) =
      some ⟨[0xAA#8, 0xFF#8, 0x07#8, 0xAA#8, 0x00#8], false, none, [⟨true, .ok, 0x00#8⟩]⟩ := by decide
/-- V1, the header: no response yet. -/
theorem test_sendBuf_gathers :
    look sendView (cmd 0x05030003#32 (sendAt false)) = some ⟨[], false, some ⟨0x03#8, 3, []⟩, []⟩ := by decide
/-- V1, the last data word. -/
theorem test_sendBufData_last :
    look sendView (cmd 0x06200000#32 (gatherAt 1 [0x10#8, 0xAA#8])) =
      some ⟨[0xAA#8, 0xFF#8, 0x03#8, 0x10#8, 0xAA#8, 0x55#8, 0x20#8, 0xAA#8, 0x00#8], false, none,
        [⟨true, .ok, 0x00#8⟩]⟩ := by decide
/-- V28. -/
theorem test_sendBufData_stray :
    look sendView (cmd 0x06420000#32 (sendAt false)) = some ⟨[], false, none, [⟨false, .illegal, 0x00#8⟩]⟩ := by decide
/-- V102: the last Type in range. -/
theorem test_register :
    look (fun s => (s.table[15]?, s.table.length, s.rsp)) (cmd 0x100FFFFF#32 (sendAt false)) =
      some (some (some 0xFFFF#16), 16, [⟨true, .ok, 0x00#8⟩]) := by decide
/-- V103: the first Type out of range. -/
theorem test_register_range :
    look (fun s => (s.table, s.rsp)) (cmd 0x10100001#32 (sendAt false)) =
      some (List.replicate 16 none, [⟨false, .range, 0x00#8⟩]) := by decide
/-- V79. -/
theorem test_hasNext_drains :
    look curView (cmd 0x20000000#32 (dispAt false [0xAA#8, 0x42#8, 0x10#8])) =
      some ⟨false, true, false, 0, [0x10#8], [⟨true, .ok, 0x01#8⟩]⟩ := by decide
/-- V80. -/
theorem test_hasNext_start :
    look (fun s => (curView s, s.afterReturn)) (cmd 0x20000000#32 (dispAt false [0xAA#8, 0xFF#8, 0x05#8])) =
      some (⟨false, false, false, 0, [0x05#8], [⟨true, .closed, 0x00#8⟩]⟩, .awaitType) := by decide
/-- R146: the start. -/
theorem test_next : look curView (cmd 0x21000000#32 (dispAt false [0x10#8])) = some ⟨true, true, false, 0, [0x10#8], []⟩ := by
  decide
/-- V86. -/
theorem test_next_closed :
    look curView (cmd 0x21000000#32 (closedAt [0x10#8])) =
      some ⟨false, false, false, 0, [0x10#8], [⟨true, .closed, 0x00#8⟩]⟩ := by decide
/-- V91. -/
theorem test_ret :
    look (fun s => (rxView s, s.afterReturn, s.curHandler.isNone && s.curType.isNone, s.rsp))
        (cmd 0x22000000#32 { closedAt [0x05#8] with afterReturn := .awaitType }) =
      some (⟨.awaitType, false, [0x05#8], []⟩, .idle, true, [⟨true, .ok, 0x00#8⟩]) := by decide
/-- V72. -/
theorem test_ret_not_open :
    look (fun s => (rxView s, s.rsp)) (cmd 0x22000000#32 (sendAt false)) =
      some (⟨.idle, false, [], []⟩, [⟨false, .notOpen, 0x00#8⟩]) := by decide
/-- V27. -/
theorem test_reserved :
    look sendView (cmd 0x23000000#32 (sendAt true)) = some ⟨[], true, none, [⟨false, .illegal, 0x00#8⟩]⟩ := by decide

/-! ## The machine -/

/-- V110. -/
theorem test_reset_in_dispatch :
    look (fun s => (rxView s, s.txOpen, s.table, s.txlog))
        (step { dispAt true [0x20#8] with txOpen := true, txlog := [0xAA#8], sched := [.reset] }) =
      some (⟨.idle, false, [0x20#8], []⟩, false, List.replicate 16 none, [0xAA#8]) := by decide
/-- R33, R50. -/
theorem test_arrive :
    look (fun s => (s.rxq, s.sched)) (step { idleAt false [0x01#8] with sched := [.arrive [0x02#8, 0x03#8], .engine] }) =
      some ([0x01#8, 0x02#8, 0x03#8], [.engine]) := by decide
/-- R27: the word waits. -/
theorem test_busy_port :
    look (fun s => (s.cmdq, s.rsp)) (cmd 0x01030000#32 (busyAt false 0 [])) = some ([0x01030000#32], []) := by decide
/-- R263, I2: a configuration that R9 forbids. -/
theorem test_config_refused :
    look (fun _ => ()) (step { State.reset with cfg := { Config.rc1 with literal := 0x00#8 } }) = none := by decide
/-- A wire row outside its context (log 7). -/
theorem test_out_of_context : look (fun _ => ()) (exec .curEscEnd (dispAt true [0x00#8])) = none := by decide
/-- A table row's word runs as the first instruction after reset. -/
theorem test_withFetchWord_command :
    decodeTableWord 32 0x10030101 = some (.register 0x03#8 0x0101#16) ∧
      look (fun s => s.table) (step (State.reset.withFetchWord 32 0x10030101)) = some table3 := by decide
theorem test_withFetchWord_byte :
    decodeTableWord 8 0xFF = some .rxIdleEscStart ∧
      look rxView (step (State.reset.withFetchWord 8 0xFF)) = some ⟨.awaitType, false, [], []⟩ := by decide
theorem test_withFetchWord_empty :
    decodeTableWord 0 0 = some .curEmpty ∧
      look (fun s => s.retry) (step (State.reset.withFetchWord 0 0)) = some 1 := by decide

/-! ## Witnesses: for every statement with hypotheses, states and operands that meet them, clause by clause at the edges of their ranges -/

theorem witness_CommandWordsDecodeByMatchAndMask :
    0x01FFFFFF#32 &&& 0xFF000000#32 = 0x01000000#32 ∧ 0x02AA0000#32 &&& 0xFF000000#32 = 0x02000000#32 ∧
    0x0312ABCD#32 &&& 0xFF000000#32 = 0x03000000#32 ∧ 0x04070000#32 &&& 0xFF000000#32 = 0x04000000#32 ∧
    0x0503FFFF#32 &&& 0xFF000000#32 = 0x05000000#32 ∧ 0x06420000#32 &&& 0xFF000000#32 = 0x06000000#32 ∧
    0x100FFFFF#32 &&& 0xFF000000#32 = 0x10000000#32 ∧ 0x20000000#32 &&& 0xFF000000#32 = 0x20000000#32 ∧
    0x21000001#32 &&& 0xFF000000#32 = 0x21000000#32 ∧ 0x22FFFFFF#32 &&& 0xFF000000#32 = 0x22000000#32 := by decide

/-- Its last clause, at the edges of the reserved ranges of R91. -/
theorem witness_CommandWordsDecodeByMatchAndMask_reserved :
    ∀ op ∈ [0x00#32, 0x07#32, 0x0F#32, 0x11#32, 0x1F#32, 0x23#32, 0xFF#32],
      (op <<< 24) &&& 0xFF000000#32 ∉
        [0x01000000#32, 0x02000000#32, 0x03000000#32, 0x04000000#32, 0x05000000#32, 0x06000000#32,
         0x10000000#32, 0x20000000#32, 0x21000000#32, 0x22000000#32] := by
  simp

theorem witness_DecodeOfEncodeIsTheInstruction :
    Config.rc1.wf = true ∧ (Instr.rxIdleEscOther 0xAA#8).wf Config.rc1 = true ∧
      (Instr.sendBuf 0xFF#8 0xFFFF#16).wf Config.rc1 = true ∧ (Instr.reserved 0x00#8).wf Config.rc1 = true := by decide

theorem witness_TokensAreUniquelyDecodable :
    Config.rc2.wf = true ∧
      ∀ k ∈ [Token.start, .ord 0xFF#8, .literal, .bad 0x03#8, .stop], k.wf Config.rc2 = true := by decide

theorem witness_EngineStepFollowsRxStep :
    Config.rc1.wf = true ∧ (awaitAt true [0x55#8]).rxState ≠ .dispatching ∧ (awaitAt true [0x55#8]).rxq = 0x55#8 :: [] := by
  decide

theorem witness_IdleTokensAct :
    (idleAt false [0xFF#8]).rxState = .idle ∧ (idleAt false [0xFF#8]).escPending = false ∧
    0xFF#8 ≠ (idleAt false [0xFF#8]).cfg.esc ∧ (idleAt false [0xFF#8]).rxq = 0xFF#8 :: [] ∧
    (idleAt false [0xAA#8]).rxq = (idleAt false [0xAA#8]).cfg.esc :: [] ∧
    (idleAt true [0x00#8]).escPending = true ∧ (idleAt true [0x00#8]).rxq = END :: [] ∧
    (idleAt true [0xFF#8]).rxq = START :: [] ∧
    (idleAt true [0x55#8]).rxq = (idleAt true [0x55#8]).cfg.literal :: [] ∧
    0xAA#8 ≠ START ∧ 0xAA#8 ≠ END ∧ 0xAA#8 ≠ (idleAt true [0xAA#8]).cfg.literal ∧
    (idleAt true [0xAA#8]).rxq = 0xAA#8 :: [] := by decide

/-- A hit at the last Type in range, misses at the first one out of range and at an unset slot. -/
theorem witness_TypeTokensDispatchOrMiss_ordinary :
    (awaitAt false [0x0F#8]).rxState = .awaitType ∧ (awaitAt false [0x0F#8]).escPending = false ∧
    0x0F#8 ≠ (awaitAt false [0x0F#8]).cfg.esc ∧ (awaitAt false [0x0F#8]).rxq = 0x0F#8 :: [] ∧
    (0x0F#8).toNat < (awaitAt false [0x0F#8]).cfg.nTypes ∧
    ({ awaitAt false [0x0F#8] with table := List.replicate 15 none ++ [some 0x0000#16] } : State).table[(0x0F#8).toNat]? =
      some (some 0x0000#16) ∧
    (awaitAt false [0x10#8]).cfg.nTypes ≤ (0x10#8).toNat ∧
    (awaitAt false [0x0F#8]).table[(0x0F#8).toNat]? = some none := by decide

/-- The same for the escaped Type: under RC2 with and without Type 3 registered, and under RC1, where ESC is out of range. -/
theorem witness_TypeTokensDispatchOrMiss_escaped :
    (awaitAt true [0x55#8]).escPending = true ∧ (awaitAt true [0x55#8]).rxq = Config.rc2.literal :: [] ∧
    Config.rc2.esc.toNat < Config.rc2.nTypes ∧
    (awaitAt true [0x55#8]).table[Config.rc2.esc.toNat]? = some (some 0x0101#16) ∧
    State.reset.table[Config.rc2.esc.toNat]? = some none ∧
    (awaitAt true [0x55#8]).cfg.nTypes ≤ (awaitAt true [0x55#8]).cfg.esc.toNat := by decide

theorem witness_AwaitTypeControlTokensAct :
    (awaitAt false [0xAA#8]).rxState = .awaitType ∧ (awaitAt false [0xAA#8]).escPending = false ∧
    (awaitAt false [0xAA#8]).rxq = (awaitAt false [0xAA#8]).cfg.esc :: [] ∧
    (awaitAt true [0xFF#8]).escPending = true ∧ (awaitAt true [0xFF#8]).rxq = START :: [] ∧
    (awaitAt true [0x00#8]).rxq = END :: [] ∧
    0xFE#8 ≠ START ∧ 0xFE#8 ≠ END ∧ 0xFE#8 ≠ (awaitAt true [0xFE#8]).cfg.literal ∧
    (awaitAt true [0xFE#8]).rxq = 0xFE#8 :: [] := by decide

theorem witness_FrameDispatchesExactlyOnce :
    (idleAt false [0xAA#8, 0xFF#8, 0x03#8, 0x10#8]).cfg.wf = true ∧
    (idleAt false [0xAA#8, 0xFF#8, 0x03#8, 0x10#8]).rxState ≠ .dispatching ∧
    (idleAt false [0xAA#8, 0xFF#8, 0x03#8, 0x10#8]).escPending = false ∧
    (idleAt false [0xAA#8, 0xFF#8, 0x03#8, 0x10#8]).lookup 0x03#8 = some 0x0101#16 ∧
    (idleAt false [0xAA#8, 0xFF#8, 0x03#8, 0x10#8]).rxq = openBytes Config.rc1 0x03#8 ++ [0x10#8] ∧
    2 < (openBytes Config.rc1 0x03#8).length := by decide

/-- Its second part: a step that adds a dispatch event. -/
theorem witness_FrameDispatchesExactlyOnce_event :
    ∃ u, step { awaitAt false [0x03#8] with sched := [.engine] } = .next u ∧ u.disp ≠ (awaitAt false [0x03#8]).disp :=
  ⟨_, rfl, by decide⟩

theorem witness_MissedFrameIsSkipped :
    (awaitAt false [0x10#8, 0xAA#8, 0x55#8, 0xAA#8, 0x00#8]).cfg.wf = true ∧
    (awaitAt false [0x10#8, 0xAA#8, 0x55#8, 0xAA#8, 0x00#8]).rxState = .awaitType ∧
    (awaitAt false [0x10#8, 0xAA#8, 0x55#8, 0xAA#8, 0x00#8]).escPending = false ∧
    (awaitAt false [0x10#8, 0xAA#8, 0x55#8, 0xAA#8, 0x00#8]).lookup 0x10#8 = none ∧
    (awaitAt false [0x10#8, 0xAA#8, 0x55#8, 0xAA#8, 0x00#8]).rxq =
      enc Config.rc1 0x10#8 ++ [0xAA#8].flatMap (enc Config.rc1) ++ closeBytes Config.rc1 ++ [] := by decide

theorem witness_EscStartResynchronises :
    (idleAt false [0xAA#8, 0xFF#8, 0x03#8]).cfg.wf = true ∧
    (idleAt false [0xAA#8, 0xFF#8, 0x03#8]).rxState ≠ .dispatching ∧
    (idleAt false [0xAA#8, 0xFF#8, 0x03#8]).escPending = false ∧
    (idleAt false [0xAA#8, 0xFF#8, 0x03#8]).rxq = Config.rc1.esc :: START :: [0x03#8] ∧
    (idleAt false [0xAA#8, 0xFF#8, 0x03#8]).lookup 0x03#8 = some 0x0101#16 ∧
    (idleAt false [0xAA#8, 0xFF#8, 0x03#8]).rxq = openBytes Config.rc1 0x03#8 ++ [] := by decide

theorem witness_MalformedPairsAreSilent :
    Config.rc1.wf = true ∧ 0xAA#8 ≠ START ∧ 0xAA#8 ≠ END ∧ 0xAA#8 ≠ Config.rc1.literal ∧
    (idleAt false [0xAA#8, 0xAA#8]).escPending = false ∧ (idleAt false [0xAA#8, 0xAA#8]).rxq = Config.rc1.esc :: 0xAA#8 :: [] ∧
    (idleAt false [0xAA#8, 0xAA#8]).rxState = .idle ∧ (awaitAt false [0xAA#8, 0xAA#8]).rxState = .awaitType ∧
    (busyAt false 0 [0xAA#8, 0xAA#8]).nextBusy = true ∧ (dispAt false [0xAA#8, 0xAA#8]).rxState = .dispatching ∧
    (dispAt false [0xAA#8, 0xAA#8]).msgOpen = true ∧ (dispAt false [0xAA#8, 0xAA#8]).nextBusy = false := by decide

theorem witness_EscPendingTracksTokenStarts_engine :
    (awaitAt false [0xAA#8]).rxq = 0xAA#8 :: [] ∧ (awaitAt false [0xAA#8]).rxState ≠ .dispatching ∧
      ∃ u, step { awaitAt false [0xAA#8] with sched := [.engine] } = .next u := ⟨rfl, by decide, _, rfl⟩

theorem witness_EscPendingTracksTokenStarts_poll :
    (busyAt true 0 [0x55#8]).rxq = 0x55#8 :: [] ∧ (busyAt true 0 [0x55#8]).nextBusy = true ∧
      ∃ u, step { busyAt true 0 [0x55#8] with sched := [.poll] } = .next u := ⟨rfl, rfl, _, rfl⟩

theorem witness_PollStepFollowsNextPoll :
    Config.rc1.wf = true ∧ (busyAt false 2 []).nextBusy = true := by decide

theorem witness_CursorTokensDeliver :
    (busyAt false 0 [0x00#8]).nextBusy = true ∧ 0x00#8 ≠ Config.rc1.esc ∧ (busyAt false 0 [0x00#8]).escPending = false ∧
    (busyAt false 0 [0x00#8]).rxq = 0x00#8 :: [] ∧ (busyAt true 0 [0x55#8]).escPending = true ∧
    (busyAt true 0 [0x55#8]).rxq = Config.rc1.literal :: [] := by decide

theorem witness_CursorTokensKeepPolling :
    (busyAt false 2 [0xAA#8]).nextBusy = true ∧ (busyAt false 2 [0xAA#8]).escPending = false ∧
    (busyAt false 2 [0xAA#8]).rxq = Config.rc1.esc :: [] ∧ 0x01#8 ≠ START ∧ 0x01#8 ≠ END ∧ 0x01#8 ≠ Config.rc1.literal ∧
    (busyAt true 2 [0x01#8]).escPending = true ∧ (busyAt true 2 [0x01#8]).rxq = 0x01#8 :: [] := by decide

theorem witness_CursorTokensClose :
    (busyAt true 0 [0xFF#8]).nextBusy = true ∧ (busyAt true 0 [0xFF#8]).escPending = true ∧
    (busyAt true 0 [0xFF#8]).rxq = START :: [] ∧ (busyAt true 0 [0x00#8]).rxq = END :: [] := by decide

theorem witness_EmptyPollCountsOrTimesOut :
    (busyAt false 1 []).nextBusy = true ∧ (busyAt false 1 []).rxq = [] ∧
    (busyAt false 1 []).retry + 1 ≠ (busyAt false 1 []).cfg.retryBudget ∧
    (busyAt false 2 []).retry + 1 = (busyAt false 2 []).cfg.retryBudget := by decide

theorem witness_TimeoutAfterRetryBudget :
    (busyAt true 0 []).cfg.wf = true ∧ (busyAt true 0 []).nextBusy = true ∧ (busyAt true 0 []).retry = 0 ∧
    (busyAt true 0 []).rxq = [] ∧ 2 < (busyAt true 0 []).cfg.retryBudget := by decide

theorem witness_HasNextFollowsItsLoop_answers :
    (dispAt false []).cfg.wf = true ∧ (dispAt false []).nextBusy = false ∧ (dispAt false []).collect = none ∧
    (idleAt false [0x10#8]).rxState ≠ .dispatching ∧
    (closedAt [0x10#8]).rxState = .dispatching ∧ (closedAt [0x10#8]).msgOpen = false ∧
    (dispAt false []).rxState = .dispatching ∧ (dispAt false []).msgOpen = true ∧ (dispAt false []).rxq = [] ∧
    (dispAt false [0x55#8]).escPending = false ∧ 0x55#8 ≠ Config.rc1.esc ∧
    (dispAt true [0x55#8]).escPending = true ∧ (dispAt true [0x55#8]).rxq = Config.rc1.literal :: [] := by decide

theorem witness_HasNextFollowsItsLoop_drains :
    (dispAt false [0xAA#8]).rxq = Config.rc1.esc :: [] ∧ (dispAt true [0x00#8]).rxq = END :: [] ∧
    (dispAt true [0xFF#8]).rxq = START :: [] ∧ (dispAt true [0x42#8]).rxq = 0x42#8 :: [] ∧
    0x42#8 ≠ Config.rc1.literal ∧ 0x42#8 ≠ END ∧ 0x42#8 ≠ START := by decide

theorem witness_HasNextKeepsThePayload :
    Config.rc1.wf = true ∧ (∃ u, exec .hasNext (dispAt false [0xAA#8, 0x42#8, 0x10#8]) = .next u) ∧
      (dispAt false [0xAA#8, 0x42#8, 0x10#8]).payload = [0x10#8] := ⟨by decide, ⟨_, rfl⟩, by decide⟩

theorem witness_HasNextTwiceGivesTheSameAnswer :
    (dispAt false [0xAA#8, 0x00#8]).nextBusy = false ∧
      ∃ u, exec .hasNext (dispAt false [0xAA#8, 0x00#8]) = .next u := ⟨rfl, _, rfl⟩

theorem witness_NextStartsOrAnswersAtOnce :
    (dispAt false []).nextBusy = false ∧ (dispAt false []).collect = none ∧ (idleAt false []).rxState ≠ .dispatching ∧
    (closedAt []).rxState = .dispatching ∧ (closedAt []).msgOpen = false ∧
    (dispAt false []).rxState = .dispatching ∧ (dispAt false []).msgOpen = true := by decide

theorem witness_PollsDeliverThePayloadInOrder :
    Config.rc1.wf = true ∧ (busyAt false 0 [0x10#8]).nextBusy = true ∧ (busyAt false 0 [0x10#8]).msgOpen = true ∧
      ∃ u, step { busyAt false 0 [0x10#8] with sched := [.poll] } = .next u := ⟨by decide, rfl, rfl, _, rfl⟩

theorem witness_ReturnEndsTheDispatch :
    (dispAt true [0x55#8]).nextBusy = false ∧ (dispAt true [0x55#8]).collect = none ∧
    (dispAt true [0x55#8]).rxState = .dispatching ∧ (awaitAt false []).rxState ≠ .dispatching := by decide

/-- The word RETURN waiting inside a dispatch. -/
def returningAt (e : Bool) (q : List Byte) : State := { dispAt e q with cmdq := [0x22000000#32] }

/-- The three places where the rest of a message can begin. -/
theorem witness_EarlyReturnSkipsTheRest :
    (returningAt true [0x55#8]).cfg.wf = true ∧ (returningAt true [0x55#8]).rxState = .dispatching ∧
    (returningAt true [0x55#8]).nextBusy = false ∧ (returningAt true [0x55#8]).collect = none ∧
    (returningAt true [0x55#8]).afterReturn = .idle ∧ decode Config.rc1 (.word 0x22000000#32) = .ret ∧
    (returningAt true [0x55#8]).cmdq = 0x22000000#32 :: [] ∧ (returningAt false [0x20#8]).escPending = false ∧
    (returningAt false [0x20#8, 0xAA#8, 0x00#8]).rxq = ([0x20#8].flatMap (enc Config.rc1) ++ closeBytes Config.rc1) ++ [] ∧
    (returningAt true [0x55#8, 0xAA#8, 0x00#8]).escPending = true ∧
    (returningAt true [0x55#8, 0xAA#8, 0x00#8]).rxq =
      (Config.rc1.literal :: (([] : List Byte).flatMap (enc Config.rc1) ++ closeBytes Config.rc1)) ++ [] ∧
    (returningAt true [0x00#8, 0xAA#8]).rxq = [END] ++ [0xAA#8] := by decide

theorem witness_DispatchIsLeftOnlyByReturnOrReset :
    (∃ u, step { dispAt false [] with cmdq := [0x22000000#32], sched := [.host] } = .next u ∧ u.rxState = .idle) ∧
      (dispAt false []).rxState = .dispatching := ⟨⟨_, rfl, rfl⟩, rfl⟩

/-- A frame whose payload holds ESC, START and END values, and four NEXT words (one for each byte and one more). -/
def roundTripAt : State :=
  { idleAt false [0xAA#8, 0xFF#8, 0x03#8, 0xAA#8, 0x55#8, 0xFF#8, 0x00#8, 0xAA#8, 0x00#8] with
    cmdq := [0x21000000#32, 0x21000000#32, 0x21000000#32, 0x21000000#32, 0x22000000#32] }

theorem witness_FrameRoundTripsThroughTheCursor :
    roundTripAt.cfg.wf = true ∧ roundTripAt.rxState ≠ .dispatching ∧ roundTripAt.escPending = false ∧
    roundTripAt.nextBusy = false ∧ roundTripAt.collect = none ∧ roundTripAt.lookup 0x03#8 = some 0x0101#16 ∧
    roundTripAt.rxq = frame roundTripAt.cfg 0x03#8 [0xAA#8, 0xFF#8, 0x00#8] ++ [] ∧
    decode roundTripAt.cfg (.word 0x21000000#32) = .next ∧
    roundTripAt.cmdq =
      List.replicate (([0xAA#8, 0xFF#8, 0x00#8] : List Byte).length + 1) 0x21000000#32 ++ [0x22000000#32] := by decide

/-- Of BeginSendOpensAFrame, SendByteWritesEscaped, EndSendClosesTheFrame and SendWritesAnEmptyFrame: the guard down, and up. -/
theorem witness_sends :
    (sendAt false).nextBusy = false ∧ (sendAt false).collect = none ∧ (sendAt false).txOpen = false ∧
    (sendAt true).nextBusy = false ∧ (sendAt true).collect = none ∧ (sendAt true).txOpen = true := by decide

theorem witness_SendBufGathersItsBeats :
    (gatherAt 1 [0x10#8]).nextBusy = false ∧ (sendAt false).collect = none ∧ 0x0001#16 ≠ 0#16 ∧
    (gatherAt 1 [0x10#8]).collect = some ⟨0x03#8, 1, [0x10#8]⟩ ∧ (gatherAt 2 []).collect = some ⟨0x03#8, 0 + 2, []⟩ ∧
    isCommand .endSend = true := by decide

/-- The condition that the word be no data beat, in the last clause of the same statement. -/
theorem witness_SendBufGathersItsBeats_interrupt : ∀ b, Instr.endSend ≠ .sendBufData b := fun _ h => nomatch h

theorem witness_SendBufEqualsItsComposition :
    (sendAt false).cfg.wf = true ∧ (sendAt false).nextBusy = false ∧ (sendAt false).collect = none ∧
    ([0x10#8, 0xAA#8] : List Byte).length ≤ 65535 ∧ (sendAt false).txOpen = false ∧ (sendAt true).txOpen = true := by decide

theorem witness_EscapingLengths :
    (∃ u, (sendAt true).nextBusy = false ∧ (sendAt true).txOpen = true ∧ exec (.sendByte 0xAA#8) (sendAt true) = .next u) ∧
    (∃ u, (gatherAt 1 [0xAA#8]).txOpen = false ∧ (gatherAt 1 [0xAA#8]).collect = some ⟨0x03#8, 1, [0xAA#8]⟩ ∧
      exec (.sendBufData 0x10#8) (gatherAt 1 [0xAA#8]) = .next u) ∧
    (∃ u, (sendAt false).txOpen = false ∧ exec (.sendBuf 0xAA#8 0#16) (sendAt false) = .next u) :=
  ⟨⟨_, rfl, rfl, rfl⟩, ⟨_, rfl, rfl, rfl⟩, ⟨_, rfl, rfl⟩⟩

theorem witness_SendGuardFailuresWriteNothing :
    (sendAt true).nextBusy = false ∧ (sendAt true).txOpen = true ∧ (∃ t, Instr.beginSend 0x04#8 = .beginSend t) ∧
    (∃ b t bs, Instr.sendBufData 0x10#8 = .sendBufData b ∧
      ({ gatherAt 1 [] with txOpen := true } : State).collect = some ⟨t, 1, bs⟩) ∧
    (sendAt false).txOpen = false ∧ (∃ b, Instr.sendByte 0x10#8 = .sendByte b) :=
  ⟨rfl, rfl, ⟨_, rfl⟩, ⟨_, _, _, rfl, rfl⟩, rfl, ⟨_, rfl⟩⟩

/-- A begun frame that holds an escaped byte. -/
def begun : State := { sendAt true with txlog := [0xAA#8, 0xFF#8, 0x03#8, 0xAA#8, 0x55#8], cmdq := [0x03000000#32] }

theorem begun_aligned : TxAligned begun := by
  have h : (tokenize begun.cfg false begun.txlog) = ([.start, .ord 0x03#8, .literal], false) := by decide
  simp [TxAligned, h]

theorem begun_frames : TxFrames begun :=
  ⟨[], [0xAA#8, 0xFF#8, 0x03#8, 0xAA#8, 0x55#8], by decide, by decide, fun _ => ⟨0x03#8, [0xAA#8], by decide⟩⟩

theorem witness_TxTokensStayAligned :
    ∃ u, TxAligned { begun with sched := [.host] } ∧ step { begun with sched := [.host] } = .next u :=
  ⟨_, begun_aligned, rfl⟩

theorem witness_TxLogStaysFrames :
    ∃ u, TxFrames { begun with sched := [.host] } ∧
      (∀ ms, ({ begun with sched := [.host] } : State).sched ≠ .reset :: ms) ∧ step { begun with sched := [.host] } = .next u :=
  ⟨_, begun_frames, fun _ h => (nomatch h), rfl⟩

/-- And of ReceiveHalfIgnoresTheEncoder. -/
theorem witness_EncoderIgnoresTheReceiveHalf :
    isEncoderCommand (.sendBufData 0x10#8) = true ∧ isEncoderCommand .hasNext = false := by decide

theorem witness_RegisterWritesItsSlot :
    (sendAt false).nextBusy = false ∧ (sendAt false).collect = none ∧ (sendAt false).cfg.nTypes ≤ (0x10#8).toNat ∧
    (0x0F#8).toNat < (sendAt false).cfg.nTypes ∧ (sendAt false).tableWf = true := by decide

theorem witness_TableIsWrittenOnlyByRegisterAndReset :
    ∃ u, step { sendAt false with cmdq := [0x10030101#32], sched := [.host] } = .next u ∧ u.table = table3 := ⟨_, rfl, rfl⟩

theorem witness_ReservedWordsAnswerIllegal :
    (sendAt false).nextBusy = false ∧ (0x07FFFFFF#32).extractLsb' 24 8 = 0x07#8 ∧ 0x07#8 ∉ assignedOps ∧
    (0x00000000#32).extractLsb' 24 8 = 0x00#8 ∧ 0x00#8 ∉ assignedOps ∧ (sendAt false).collect = none ∧
    (gatherAt 2 []).collect = some ⟨0x03#8, 2, []⟩ := by decide

theorem witness_DisabledMovesOnlyUseTheirTurn :
    Config.rc1.wf = true ∧ (dispAt false [0x10#8]).rxState = .dispatching ∧ (idleAt true []).rxq = [] ∧
    (dispAt false []).nextBusy = false ∧ (busyAt false 0 []).nextBusy = true ∧ (dispAt false []).cmdq = [] := by decide

theorem witness_BusyPortTakesNoCommand :
    (busyAt false 0 []).nextBusy = true ∧ isCommand .ret = true ∧ (busyAt false 0 []).cfg.wf = true := by decide

theorem witness_CommandsAnswerOneResponse_free :
    ∃ u v w x, (dispAt false []).nextBusy = false ∧ (dispAt false []).collect = none ∧
      exec .hasNext (dispAt false []) = .next u ∧ exec .ret (dispAt false []) = .next v ∧
      exec .next (closedAt []) = .next w ∧ exec (.sendBuf 0x03#8 0x0001#16) (dispAt false []) = .next x :=
  ⟨_, _, _, _, rfl, rfl, rfl, rfl, rfl, rfl⟩

/-- The last beat of a gather, one before it, and a word that interrupts it. -/
theorem witness_CommandsAnswerOneResponse_gather :
    (∃ u, (gatherAt 1 []).collect = some ⟨0x03#8, 1, []⟩ ∧ exec (.sendBufData 0x10#8) (gatherAt 1 []) = .next u) ∧
    (∃ u, (gatherAt 2 []).collect = some ⟨0x03#8, 2, []⟩ ∧ exec (.sendBufData 0x10#8) (gatherAt 2 []) = .next u) ∧
    (∃ u, (gatherAt 2 []).nextBusy = false ∧ isCommand .endSend = true ∧ (∀ b, Instr.endSend ≠ .sendBufData b) ∧
      exec .endSend (gatherAt 2 []) = .next u) :=
  ⟨⟨_, rfl, rfl⟩, ⟨_, rfl, rfl⟩, ⟨_, rfl, rfl, witness_SendBufGathersItsBeats_interrupt, rfl⟩⟩

/-- A poll that counts, and one that finishes its NEXT. -/
theorem witness_CommandsAnswerOneResponse_poll :
    isPollRow .curEmpty = true ∧ (∃ u, exec .curEmpty (busyAt false 1 []) = .next u) ∧
      ∃ u, exec .curEmpty (busyAt false 2 []) = .next u := ⟨rfl, ⟨_, rfl⟩, ⟨_, rfl⟩⟩

theorem witness_StepRunsTheDecodedInstruction :
    Config.rc1.wf = true ∧ (returningAt false []).nextBusy = false ∧ (returningAt false []).cmdq = 0x22000000#32 :: [] ∧
    decode Config.rc1 (.word 0x22000000#32) = .ret ∧ (idleAt false [0x10#8]).rxState = .idle ∧
    (idleAt false [0x10#8]).rxq = 0x10#8 :: [] ∧ (awaitAt true [0x00#8]).rxState = .awaitType ∧
    (busyAt true 0 [0xFF#8]).nextBusy = true ∧ (busyAt true 0 []).rxq = [] := by decide

/-- Of the statements that ask for an admitted configuration only (EveryStepAnswersANextState, LaunchMeetsTheInvariant, ResetGivesTheResetValues). -/
theorem witness_admitted : State.reset.cfg.wf = true ∧ Config.rc2.wf = true := by decide

theorem witness_StepKeepsTheInvariant :
    ∃ u, Inv { State.reset with sched := [.arrive [0xAA#8]] } ∧ step { State.reset with sched := [.arrive [0xAA#8]] } = .next u :=
  ⟨_, ⟨by decide, by decide, by decide, by decide, by decide, by decide, by decide, by decide, by decide,
    fun _ h => nomatch h⟩, rfl⟩

theorem witness_BytesLeaveTheQueueInOrder :
    ∃ u, step { dispAt false [0xAA#8, 0x42#8] with cmdq := [0x20000000#32], sched := [.host] } = .next u ∧ u.rxq = [] :=
  ⟨_, rfl, rfl⟩

theorem witness_EndedMachineHasNoStepLeft :
    State.reset.ended ∧ Config.rc1.wf = true ∧ (busyAt true 2 []).nextBusy = true ∧
    (awaitAt false [0x03#8]).rxState ≠ .dispatching ∧ (awaitAt false [0x03#8]).rxq ≠ [] := by
  unfold State.ended; decide

theorem witness_EngineTokensFrame :
    ∃ u v, exec (.rxIdleEscOther 0x42#8) (idleAt true [0x42#8]) = .next u ∧
      exec (.rxAwaitType 0x03#8) (awaitAt false [0x03#8]) = .next v := ⟨_, _, rfl, rfl⟩

theorem witness_CursorFrame :
    ∃ u v w x, exec .curEscStart (busyAt true 0 [0xFF#8]) = .next u ∧ exec .hasNext (dispAt false []) = .next v ∧
      exec .next (dispAt false []) = .next w ∧ exec .ret (dispAt false []) = .next x := ⟨_, _, _, _, rfl, rfl, rfl, rfl⟩

theorem witness_SendAndRegisterFrame :
    ∃ u v w x, exec (.sendByte 0xAA#8) (sendAt true) = .next u ∧ exec (.send 0x03#8) (sendAt false) = .next v ∧
      exec (.register 0x0F#8 0xFFFF#16) (sendAt false) = .next w ∧ exec (.reserved 0x23#8) (sendAt true) = .next x :=
  ⟨_, _, _, _, rfl, rfl, rfl, rfl⟩

end Sys2Proof.Tests
end

section
/-! PROOFS. Which command a word stands for (30_encoding.md, R80 to R96): its opcode under the mask of R81 to R90, and one equation of the
command decoder for each opcode. -/

namespace Sys2Proof

/-! ## The opcode under its mask -/

theorem and_opMask (w : CmdWord) : w &&& 0xFF000000#32 = wordOf (opField w) 0#8 0#16 := by
  have h := wordOf_and_opMask (opField w) (aField w) (bField w)
  rwa [wordOf_fields] at h

/-- A word whose masked value is the match value of `op` has the opcode `op`. -/
theorem opField_of_match {w : CmdWord} (op : Byte) (h : w &&& 0xFF000000#32 = wordOf op 0#8 0#16) :
    opField w = op := by
  rw [and_opMask] at h
  simpa using congrArg opField h

/-- The match values of the assigned opcodes, as R81 to R90 write them out. -/
theorem matchValues_eq :
    assignedOps.map (fun op => wordOf op 0#8 0#16) =
      [0x01000000#32, 0x02000000#32, 0x03000000#32, 0x04000000#32, 0x05000000#32, 0x06000000#32,
       0x10000000#32, 0x20000000#32, 0x21000000#32, 0x22000000#32] := by decide

/-- A word that meets no match value has a reserved opcode. -/
theorem opField_notMem_assignedOps {w : CmdWord}
    (h : w &&& 0xFF000000#32 ∉ assignedOps.map (fun op => wordOf op 0#8 0#16)) : opField w ∉ assignedOps := by
  intro hop
  rw [and_opMask] at h
  exact h (List.mem_map_of_mem hop)

/-! ## The decoder, opcode by opcode -/

theorem decodeCommand_beginSend {w : CmdWord} (h : opField w = 0x01#8) : decodeCommand w = .beginSend (aField w) := by
  simp [decodeCommand, h]

theorem decodeCommand_sendByte {w : CmdWord} (h : opField w = 0x02#8) : decodeCommand w = .sendByte (aField w) := by
  simp [decodeCommand, h]

theorem decodeCommand_endSend {w : CmdWord} (h : opField w = 0x03#8) : decodeCommand w = .endSend := by
  simp [decodeCommand, h]

theorem decodeCommand_send {w : CmdWord} (h : opField w = 0x04#8) : decodeCommand w = .send (aField w) := by
  simp [decodeCommand, h]

theorem decodeCommand_sendBuf {w : CmdWord} (h : opField w = 0x05#8) :
    decodeCommand w = .sendBuf (aField w) (bField w) := by
  simp [decodeCommand, h]

theorem decodeCommand_sendBufData {w : CmdWord} (h : opField w = 0x06#8) :
    decodeCommand w = .sendBufData (aField w) := by
  simp [decodeCommand, h]

theorem decodeCommand_register {w : CmdWord} (h : opField w = 0x10#8) :
    decodeCommand w = .register (aField w) (bField w) := by
  simp [decodeCommand, h]

theorem decodeCommand_hasNext {w : CmdWord} (h : opField w = 0x20#8) : decodeCommand w = .hasNext := by
  simp [decodeCommand, h]

theorem decodeCommand_next {w : CmdWord} (h : opField w = 0x21#8) : decodeCommand w = .next := by
  simp [decodeCommand, h]

theorem decodeCommand_ret {w : CmdWord} (h : opField w = 0x22#8) : decodeCommand w = .ret := by
  simp [decodeCommand, h]

theorem decodeCommand_reserved {w : CmdWord} (h : opField w ∉ assignedOps) :
    decodeCommand w = .reserved (opField w) := by
  simp only [assignedOps, List.mem_cons, List.not_mem_nil, or_false, not_or] at h
  simp [decodeCommand, h]

end Sys2Proof
end

section
/-! PROOFS. The command port and the gathering of a SEND_BUF (R86, R91, R184): what each operation of the gather does, case by case, and what
any other command word does while one is open. -/

namespace Sys2Proof.Machine

theorem respondCommand_illegal (s : State) :
    s.respondCommand .illegal = { s with rsp := s.rsp ++ [⟨false, .illegal, 0x00#8⟩] } := rfl

/-! ## SEND_BUF -/

theorem sendWhole_eq_sendBufSpec (s : State) (t : Byte) (bs : List Byte) : s.sendWhole t bs = sendBufSpec s t bs := by
  unfold State.sendWhole sendBufSpec
  split <;> rfl

theorem sendBufHeader_zero (s : State) (t : Byte) : s.sendBufHeader t 0#16 = sendBufSpec s t [] := by
  rw [← sendWhole_eq_sendBufSpec]
  exact if_pos rfl

theorem sendBufHeader_of_ne_zero (s : State) (t : Byte) {len : BitVec 16} (h : len ≠ 0#16) :
    s.sendBufHeader t len = { s with collect := some ⟨t, len.toNat, []⟩ } :=
  if_neg h

theorem sendBufBeat_stray {s : State} (h : s.collect = none) (b : Byte) :
    s.sendBufBeat b = s.respondCommand .illegal := by
  simp only [State.sendBufBeat, h]

theorem sendBufBeat_last {s : State} {t : Byte} {bs : List Byte} (h : s.collect = some ⟨t, 1, bs⟩) (b : Byte) :
    s.sendBufBeat b = sendBufSpec { s with collect := none } t (bs ++ [b]) := by
  simp only [State.sendBufBeat, h]
  exact sendWhole_eq_sendBufSpec _ _ _

theorem sendBufBeat_more {s : State} {t : Byte} {n : Nat} {bs : List Byte} (h : s.collect = some ⟨t, n + 2, bs⟩)
    (b : Byte) : s.sendBufBeat b = { s with collect := some ⟨t, n + 1, bs ++ [b]⟩ } := by
  simp only [State.sendBufBeat, h]
  rfl

/-! ## Every other command word -/

/-- Every command but SEND_BUF_DATA goes through the port's one rule, with an effect of its own. -/
theorem exec_eq_onCommand {i : Instr} (hi : isCommand i = true) (hb : ∀ b, i ≠ .sendBufData b) :
    ∃ effect : State → State, ∀ s, exec i s = onCommand s effect := by
  cases i with
  | beginSend t => exact ⟨fun s => s.beginSend t, fun _ => rfl⟩
  | sendByte b => exact ⟨fun s => s.sendByte b, fun _ => rfl⟩
  | endSend => exact ⟨State.endSend, fun _ => rfl⟩
  | send t => exact ⟨fun s => s.sendWhole t [], fun _ => rfl⟩
  | sendBuf t len => exact ⟨fun s => s.sendBufHeader t len, fun _ => rfl⟩
  | sendBufData b => exact absurd rfl (hb b)
  | register t h => exact ⟨fun s => s.registerType t h, fun _ => rfl⟩
  | hasNext => exact ⟨State.hasNext, fun _ => rfl⟩
  | next => exact ⟨State.nextStart, fun _ => rfl⟩
  | ret => exact ⟨State.handlerReturn, fun _ => rfl⟩
  | reserved _ => exact ⟨fun s => s.respondCommand .illegal, fun _ => rfl⟩
  | _ => cases hi

/-- A command word that interrupts a gather acts as it would with the gather dropped and ILLEGAL answered (R86). -/
theorem onCommand_interrupts {s : State} {c : Collect} (effect : State → State) (hb : s.nextBusy = false)
    (hc : s.collect = some c) :
    onCommand s effect =
      onCommand { s with collect := none, rsp := s.rsp ++ [⟨false, .illegal, 0x00#8⟩] } effect := by
  rw [onCommand_ready effect hb, onCommand_ready effect (by exact hb), interruptGather_some hc,
    interruptGather_none (by rfl)]

/-- A command word that finds the port free and no gather has its effect alone. -/
theorem onCommand_free {s : State} (effect : State → State) (hb : s.nextBusy = false) (hc : s.collect = none) :
    onCommand s effect = .next (effect s) := by
  rw [onCommand_ready effect hb, interruptGather_none hc]

end Sys2Proof.Machine
end

section
/-! PROOFS. The obligations on the encoding of command words, on SEND_BUF's gather and on reserved words. -/

namespace Sys2Proof.Machine

/-- Settles O34: each clause is one case of the SEND_BUF operations; an interrupt is the port's own rule. -/
theorem sendBufGathersItsBeats : Obligations.SendBufGathersItsBeats := by
  unfold Obligations.SendBufGathersItsBeats
  intro s hfree
  have beat (b : Byte) : exec (.sendBufData b) s = .next (s.sendBufBeat b) :=
    onDataBeat_ready (fun s => s.sendBufBeat b) hfree
  refine ⟨fun hnone => ?noGather, fun t bs b hc => ?lastBeat, fun t n bs b hc => ?earlierBeat,
    fun c i hc hi hb => ?interrupt⟩
  case noGather =>
    have header (t : Byte) (len : BitVec 16) : exec (.sendBuf t len) s = .next (s.sendBufHeader t len) :=
      onCommand_free (fun s => s.sendBufHeader t len) hfree hnone
    refine ⟨fun t => ?_, fun t len hlen => ?_, fun b => ?_⟩
    · rw [header, sendBufHeader_zero]
    · rw [header, sendBufHeader_of_ne_zero s t hlen]
    · rw [beat, sendBufBeat_stray hnone, respondCommand_illegal]
  case lastBeat => rw [beat, sendBufBeat_last hc]
  case earlierBeat => rw [beat, sendBufBeat_more hc]
  case interrupt =>
    obtain ⟨effect, hexec⟩ := exec_eq_onCommand hi hb
    rw [hexec, hexec]
    exact onCommand_interrupts effect hfree hc

/-- Settles O1: the masked word determines the opcode, and each opcode has its case of the decoder. -/
theorem commandWordsDecodeByMatchAndMask : Obligations.CommandWordsDecodeByMatchAndMask := by
  unfold Obligations.CommandWordsDecodeByMatchAndMask
  intro cfg w
  refine ⟨fun h => decodeCommand_beginSend (opField_of_match 0x01#8 h),
    fun h => decodeCommand_sendByte (opField_of_match 0x02#8 h),
    fun h => decodeCommand_endSend (opField_of_match 0x03#8 h),
    fun h => decodeCommand_send (opField_of_match 0x04#8 h),
    fun h => decodeCommand_sendBuf (opField_of_match 0x05#8 h),
    fun h => decodeCommand_sendBufData (opField_of_match 0x06#8 h),
    fun h => decodeCommand_register (opField_of_match 0x10#8 h),
    fun h => decodeCommand_hasNext (opField_of_match 0x20#8 h),
    fun h => decodeCommand_next (opField_of_match 0x21#8 h),
    fun h => decodeCommand_ret (opField_of_match 0x22#8 h), fun h => ?_⟩
  rw [← matchValues_eq] at h
  exact decodeCommand_reserved (opField_notMem_assignedOps h)

/-- Settles O44: the decoder's last case, then the port's rule with and without a gather. -/
theorem reservedWordsAnswerIllegal : Obligations.ReservedWordsAnswerIllegal := by
  unfold Obligations.ReservedWordsAnswerIllegal
  rintro s w op hfree rfl hop
  have ready : exec (.reserved (w.extractLsb' 24 8)) s = .next (s.interruptGather.respondCommand .illegal) :=
    onCommand_ready (fun s => s.respondCommand .illegal) hfree
  refine ⟨decodeCommand_reserved hop, fun hnone => ?noGather, fun c hc => ?gather⟩
  case noGather => rw [ready, interruptGather_none hnone, respondCommand_illegal]
  case gather =>
    rw [ready, interruptGather_some hc, respondCommand_illegal]
    simp only [List.append_assoc, List.cons_append, List.nil_append]

end Sys2Proof.Machine
end

section
/-! PROOFS. The receive engine (40_decoder.md): when it has a step, what each of its twelve rows answers in the row's own
context (R103 to R114), and that the rows are together the one function RxStep (R102). -/

namespace Sys2Proof.Machine

/-! ## The engine's fetch (R100) -/

theorem fetch_engine_isSome_iff (s : State) :
    (s.fetch .engine).isSome = true ↔ (s.rxState = .idle ∨ s.rxState = .awaitType) ∧ s.rxq ≠ [] := by
  cases hr : s.rxState with
  | idle => cases hq : s.rxq <;> simp [State.fetch, State.fetchEngine, hr, hq]
  | awaitType => cases hq : s.rxq <;> simp [State.fetch, State.fetchEngine, hr, hq]
  | dispatching => simp [State.fetch, State.fetchEngine, hr]

section Rows

variable {s : State} {b : Byte} {q : List Byte}

theorem fetch_engine_idle (hr : s.rxState = .idle) (hq : s.rxq = b :: q) :
    s.fetch .engine = some (.byte .idle s.escPending b, s) := by
  simp [State.fetch, State.fetchEngine, hr, hq]

theorem fetch_engine_awaitType (hr : s.rxState = .awaitType) (hq : s.rxq = b :: q) :
    s.fetch .engine = some (.byte .awaitType s.escPending b, s) := by
  simp [State.fetch, State.fetchEngine, hr, hq]

/-! ## The rows of IDLE -/

theorem reads_idle (hr : s.rxState = .idle) : s.reads .idle = true := beq_iff_eq.2 hr

theorem exec_rxIdleOrd (hr : s.rxState = .idle) (he : s.escPending = false) (hq : s.rxq = b :: q)
    (hb : b ≠ s.cfg.esc) :
    exec (.rxIdleOrd b) s = .next { s with rxq := q } :=
  onToken_of_context (f := id) (reads_idle hr) he hq (bne_iff_ne.2 hb)

theorem exec_rxIdleEsc (hr : s.rxState = .idle) (he : s.escPending = false) (hq : s.rxq = s.cfg.esc :: q) :
    exec .rxIdleEsc s = .next { s with rxq := q, escPending := true } :=
  onToken_of_context (f := fun u => u.setEsc true) (reads_idle hr) he hq rfl

theorem exec_rxIdleEscEnd (hr : s.rxState = .idle) (he : s.escPending = true) (hq : s.rxq = END :: q) :
    exec .rxIdleEscEnd s = .next { s with rxq := q, escPending := false } :=
  onToken_of_context (f := fun u => u.setEsc false) (reads_idle hr) he hq rfl

theorem exec_rxIdleEscStart (hr : s.rxState = .idle) (he : s.escPending = true) (hq : s.rxq = START :: q) :
    exec .rxIdleEscStart s = .next { s with rxq := q, escPending := false, rxState := .awaitType } :=
  onToken_of_context (f := fun u => (u.setEsc false).setRxState .awaitType) (reads_idle hr) he hq rfl

theorem exec_rxIdleEscLiteral (hr : s.rxState = .idle) (he : s.escPending = true) (hq : s.rxq = s.cfg.literal :: q) :
    exec .rxIdleEscLiteral s = .next { s with rxq := q, escPending := false } :=
  onToken_of_context (f := fun u => u.setEsc false) (reads_idle hr) he hq rfl

theorem exec_rxIdleEscOther (hr : s.rxState = .idle) (he : s.escPending = true) (hq : s.rxq = b :: q)
    (hb : b ≠ START ∧ b ≠ END ∧ b ≠ s.cfg.literal) :
    exec (.rxIdleEscOther b) s = .next { s with rxq := q, escPending := false } :=
  onToken_of_context (f := fun u => u.setEsc false) (reads_idle hr) he hq ((isMalformed_iff s.cfg b).2 hb)

/-! ## The rows of AWAIT_TYPE -/

theorem reads_awaitType (hr : s.rxState = .awaitType) : s.reads .awaitType = true := beq_iff_eq.2 hr

theorem exec_rxAwaitType (hr : s.rxState = .awaitType) (he : s.escPending = false) (hq : s.rxq = b :: q)
    (hb : b ≠ s.cfg.esc) :
    exec (.rxAwaitType b) s = .next (({ s with rxq := q } : State).typeDecoded b) :=
  onToken_of_context (f := fun u => u.typeDecoded b) (reads_awaitType hr) he hq (bne_iff_ne.2 hb)

theorem exec_rxAwaitEsc (hr : s.rxState = .awaitType) (he : s.escPending = false) (hq : s.rxq = s.cfg.esc :: q) :
    exec .rxAwaitEsc s = .next { s with rxq := q, escPending := true } :=
  onToken_of_context (f := fun u => u.setEsc true) (reads_awaitType hr) he hq rfl

theorem exec_rxAwaitEscLiteral (hr : s.rxState = .awaitType) (he : s.escPending = true)
    (hq : s.rxq = s.cfg.literal :: q) :
    exec .rxAwaitEscLiteral s =
      .next (({ s with rxq := q, escPending := false } : State).typeDecoded s.cfg.esc) :=
  onToken_of_context (f := fun u => (u.setEsc false).typeDecoded s.cfg.esc) (reads_awaitType hr) he hq rfl

theorem exec_rxAwaitEscStart (hr : s.rxState = .awaitType) (he : s.escPending = true) (hq : s.rxq = START :: q) :
    exec .rxAwaitEscStart s = .next { s with rxq := q, escPending := false } :=
  onToken_of_context (f := fun u => u.setEsc false) (reads_awaitType hr) he hq rfl

theorem exec_rxAwaitEscEnd (hr : s.rxState = .awaitType) (he : s.escPending = true) (hq : s.rxq = END :: q) :
    exec .rxAwaitEscEnd s = .next { s with rxq := q, escPending := false, rxState := .idle } :=
  onToken_of_context (f := fun u => (u.setEsc false).setRxState .idle) (reads_awaitType hr) he hq rfl

theorem exec_rxAwaitEscOther (hr : s.rxState = .awaitType) (he : s.escPending = true) (hq : s.rxq = b :: q)
    (hb : b ≠ START ∧ b ≠ END ∧ b ≠ s.cfg.literal) :
    exec (.rxAwaitEscOther b) s = .next { s with rxq := q, escPending := false, rxState := .idle } :=
  onToken_of_context (f := fun u => (u.setEsc false).setRxState .idle) (reads_awaitType hr) he hq
    ((isMalformed_iff s.cfg b).2 hb)

/-! ## The dispatcher (R120 to R122, R212) -/

theorem lookup_eq_none {t : Byte} (hmiss : s.cfg.nTypes ≤ t.toNat ∨ s.table[t.toNat]? = some none) :
    s.lookup t = none := by
  refine Option.eq_none_iff_forall_ne_some.2 fun h hl => ?_
  obtain ⟨hlt, hslot⟩ := (lookup_eq_some_iff s t h).1 hl
  cases hmiss with
  | inl hge => exact absurd hlt (Nat.not_lt.2 hge)
  | inr hnone => simp [hnone] at hslot

theorem typeDecoded_hit {t : Byte} {h : HandlerId} (hl : s.lookup t = some h) : s.typeDecoded t = s.dispatchTo h t := by
  simp only [State.typeDecoded, hl]

theorem typeDecoded_miss {t : Byte} (hl : s.lookup t = none) : s.typeDecoded t = s.setRxState .idle := by
  simp only [State.typeDecoded, hl]

/-- The dispatcher by what the table holds: a set slot in range dispatches, any other Type returns to IDLE. -/
theorem typeDecoded_by_slot (s : State) (t : Byte) :
    (∀ h, t.toNat < s.cfg.nTypes → s.table[t.toNat]? = some (some h) → s.typeDecoded t = s.dispatchTo h t) ∧
    (s.cfg.nTypes ≤ t.toNat ∨ s.table[t.toNat]? = some none → s.typeDecoded t = s.setRxState .idle) :=
  ⟨fun h hlt hslot => typeDecoded_hit ((lookup_eq_some_iff s t h).2 ⟨hlt, hslot⟩),
    fun hmiss => typeDecoded_miss (lookup_eq_none hmiss)⟩

theorem typeDecodedSpec_eq (s : State) (t : Byte) : typeDecodedSpec s t = s.typeDecoded t := by
  unfold typeDecodedSpec
  cases hl : s.lookup t with
  | some h => exact (typeDecoded_hit hl).symm
  | none => exact (typeDecoded_miss hl).symm

/-! ## RxStep in each of its four contexts, and the rows that refine it (R102) -/

theorem rxStepSpec_idle (hr : s.rxState = .idle) (he : s.escPending = false) :
    rxStepSpec s b = if b = s.cfg.esc then { s with escPending := true } else s := by
  simp only [rxStepSpec, hr, he]

theorem rxStepSpec_idle_pair (hr : s.rxState = .idle) (he : s.escPending = true) :
    rxStepSpec s b =
      if b = START then { s with escPending := false, rxState := .awaitType } else { s with escPending := false } := by
  simp only [rxStepSpec, hr, he]

theorem rxStepSpec_awaitType (hr : s.rxState = .awaitType) (he : s.escPending = false) :
    rxStepSpec s b = if b = s.cfg.esc then { s with escPending := true } else s.typeDecoded b := by
  simp only [rxStepSpec, hr, he, typeDecodedSpec_eq]

theorem rxStepSpec_awaitType_pair (hr : s.rxState = .awaitType) (he : s.escPending = true) :
    rxStepSpec s b =
      if b = s.cfg.literal then ({ s with escPending := false } : State).typeDecoded s.cfg.esc
      else if b = START then { s with escPending := false }
      else { s with escPending := false, rxState := .idle } := by
  simp only [rxStepSpec, hr, he, typeDecodedSpec_eq]

/-- In IDLE the row that the head byte decodes to does what RxStep does. -/
theorem exec_idle_eq_rxStepSpec {e : Bool} (hr : s.rxState = .idle) (he : s.escPending = e) (hq : s.rxq = b :: q) :
    exec (decode s.cfg (.byte .idle e b)) s = .next (rxStepSpec { s with rxq := q } b) := by
  cases e with
  | false =>
    rw [rxStepSpec_idle (s := { s with rxq := q }) hr he]
    simp only [decode, decodeByte]
    split
    next hesc => exact exec_rxIdleEsc hr he (hesc ▸ hq)
    next hord => exact exec_rxIdleOrd hr he hq hord
  | true =>
    rw [rxStepSpec_idle_pair (s := { s with rxq := q }) hr he]
    simp only [decode, decodeByte]
    split
    next hstart => exact exec_rxIdleEscStart hr he (hstart ▸ hq)
    next hstart =>
      split
      next hend => exact exec_rxIdleEscEnd hr he (hend ▸ hq)
      next hend =>
        split
        next hlit => exact exec_rxIdleEscLiteral hr he (hlit ▸ hq)
        next hlit => exact exec_rxIdleEscOther hr he hq ⟨hstart, hend, hlit⟩

/-- In AWAIT_TYPE the row that the head byte decodes to does what RxStep does. -/
theorem exec_awaitType_eq_rxStepSpec {e : Bool} (hr : s.rxState = .awaitType) (he : s.escPending = e)
    (hq : s.rxq = b :: q) :
    exec (decode s.cfg (.byte .awaitType e b)) s = .next (rxStepSpec { s with rxq := q } b) := by
  cases e with
  | false =>
    rw [rxStepSpec_awaitType (s := { s with rxq := q }) hr he]
    simp only [decode, decodeByte]
    split
    next hesc => exact exec_rxAwaitEsc hr he (hesc ▸ hq)
    next hord => exact exec_rxAwaitType hr he hq hord
  | true =>
    rw [rxStepSpec_awaitType_pair (s := { s with rxq := q }) hr he]
    simp only [decode, decodeByte]
    split
    next hlit => exact exec_rxAwaitEscLiteral hr he (hlit ▸ hq)
    next hlit =>
      split
      next hstart => exact exec_rxAwaitEscStart hr he (hstart ▸ hq)
      next hstart =>
        split
        next hend => exact exec_rxAwaitEscEnd hr he (hend ▸ hq)
        next hend => exact exec_rxAwaitEscOther hr he hq ⟨hstart, hend, hlit⟩

end Rows

/-! ## The schedule is no input of RxStep -/

theorem typeDecoded_sched (s : State) (ms : List Move) (t : Byte) :
    ({ s with sched := ms } : State).typeDecoded t = { s.typeDecoded t with sched := ms } := by
  have hl : ({ s with sched := ms } : State).lookup t = s.lookup t := lookup_congr rfl rfl t
  cases h : s.lookup t with
  | some x => rw [typeDecoded_hit h, typeDecoded_hit (hl.trans h)]; rfl
  | none => rw [typeDecoded_miss h, typeDecoded_miss (hl.trans h)]; rfl

theorem rxStepSpec_sched (s : State) (ms : List Move) (b : Byte) :
    rxStepSpec { s with sched := ms } b = { rxStepSpec s b with sched := ms } := by
  simp only [rxStepSpec, typeDecodedSpec_eq]
  split
  · split <;> rfl
  · split <;> rfl
  · split
    · rfl
    · exact typeDecoded_sched s ms b
  · split
    · exact typeDecoded_sched { s with escPending := false } ms s.cfg.esc
    · split <;> rfl
  · rfl

/-- Outside a dispatch the engine's turn runs RxStep on the byte at the head of the queue. -/
theorem step_engine_eq_rxStepSpec {s : State} {b : Byte} {q : List Byte} (ms : List Move) (hw : s.cfg.wf = true)
    (hr : s.rxState ≠ .dispatching) (hq : s.rxq = b :: q) :
    step { s with sched := .engine :: ms } = .next (rxStepSpec { s with rxq := q, sched := ms } b) := by
  obtain ⟨r, hs⟩ : ∃ r, s.rxState = r := ⟨_, rfl⟩
  cases r with
  | idle =>
    rw [step_of_fetch hw (fetch_engine_idle (s := { s with sched := ms }) hs hq)]
    exact exec_idle_eq_rxStepSpec (s := { s with sched := ms }) hs rfl hq
  | awaitType =>
    rw [step_of_fetch hw (fetch_engine_awaitType (s := { s with sched := ms }) hs hq)]
    exact exec_awaitType_eq_rxStepSpec (s := { s with sched := ms }) hs rfl hq
  | dispatching => exact absurd hs hr

end Sys2Proof.Machine
end

section
/-! PROOFS. The obligations on the receive engine's rows. -/

namespace Sys2Proof.Machine

/-- Settles O6: by the reader's state, the row that the head byte decodes to is RxStep's own case. -/
theorem engineStepFollowsRxStep : Obligations.EngineStepFollowsRxStep := by
  unfold Obligations.EngineStepFollowsRxStep
  intro s ms hw
  refine ⟨fetch_engine_isSome_iff s, fun b q hr hq => ?_⟩
  rw [step_engine_eq_rxStepSpec ms hw hr hq, ← rxStepSpec_sched]

/-- Settles O7: the rows of IDLE, each in its own context. -/
theorem idleTokensAct : Obligations.IdleTokensAct := by
  unfold Obligations.IdleTokensAct
  intro s q hr
  exact ⟨fun d hd he hq => exec_rxIdleOrd hr he hq hd, exec_rxIdleEsc hr, exec_rxIdleEscEnd hr,
    exec_rxIdleEscStart hr, exec_rxIdleEscLiteral hr,
    fun c hstart hend hlit he hq => exec_rxIdleEscOther hr he hq ⟨hstart, hend, hlit⟩⟩

/-- Settles O8: both Type tokens hand their Type to the dispatcher, whose lookup hits or misses. -/
theorem typeTokensDispatchOrMiss : Obligations.TypeTokensDispatchOrMiss := by
  unfold Obligations.TypeTokensDispatchOrMiss
  intro s q hr
  refine ⟨fun t ht he hq => ?plain, fun he hq => ?escaped⟩
  case plain =>
    obtain ⟨hit, miss⟩ := typeDecoded_by_slot { s with rxq := q } t
    rw [exec_rxAwaitType hr he hq ht]
    exact ⟨fun h hlt hslot => congrArg _ (hit h hlt hslot), fun hmiss => congrArg _ (miss hmiss)⟩
  case escaped =>
    obtain ⟨hit, miss⟩ := typeDecoded_by_slot { s with rxq := q, escPending := false } s.cfg.esc
    rw [exec_rxAwaitEscLiteral hr he hq]
    exact ⟨fun h hlt hslot => congrArg _ (hit h hlt hslot), fun hmiss => congrArg _ (miss hmiss)⟩

/-- Settles O9: the rows of AWAIT_TYPE that decode no Type, each in its own context. -/
theorem awaitTypeControlTokensAct : Obligations.AwaitTypeControlTokensAct := by
  unfold Obligations.AwaitTypeControlTokensAct
  intro s q hr
  exact ⟨exec_rxAwaitEsc hr, exec_rxAwaitEscStart hr, exec_rxAwaitEscEnd hr,
    fun c hstart hend hlit he hq => exec_rxAwaitEscOther hr he hq ⟨hstart, hend, hlit⟩⟩

end Sys2Proof.Machine
end

section
/-! PROOFS. A NEXT poll (41_cursor.md): when it has a step, what each of its seven rows answers in the row's own context (R150 to R156), and
that the rows are together the one function NextPoll (R149). -/

namespace Sys2Proof.Machine

/-! ## The poll's fetch (R149) -/

section Rows

variable {s : State} {b : Byte} {q : List Byte}

theorem fetch_poll_byte (hb : s.nextBusy = true) (hq : s.rxq = b :: q) :
    s.fetch .poll = some (.byte .poll s.escPending b, s) := by
  simp [State.fetch, State.fetchPoll, hb, hq]

theorem fetch_poll_empty (hb : s.nextBusy = true) (hq : s.rxq = []) : s.fetch .poll = some (.empty, s) := by
  simp [State.fetch, State.fetchPoll, hb, hq]

theorem fetch_poll_isSome_iff (s : State) : (s.fetch .poll).isSome = true ↔ s.nextBusy = true := by
  cases hb : s.nextBusy with
  | false => simp [State.fetch, State.fetchPoll, hb]
  | true =>
    cases hq : s.rxq with
    | nil => simp [fetch_poll_empty hb hq]
    | cons b q => simp [fetch_poll_byte hb hq]

/-! ## The rows, each in its own context -/

theorem exec_curOrd (hb : s.nextBusy = true) (he : s.escPending = false) (hq : s.rxq = b :: q) (hd : b ≠ s.cfg.esc) :
    exec (.curOrd b) s = .next (finishSpec { s with rxq := q } .ok b) :=
  onToken_of_context (r := .poll) (f := fun u => (u.setRetry 0).finishNext .ok b) hb he hq (bne_iff_ne.2 hd)

theorem exec_curEsc (hb : s.nextBusy = true) (he : s.escPending = false) (hq : s.rxq = s.cfg.esc :: q) :
    exec .curEsc s = .next { s with rxq := q, retry := 0, escPending := true } :=
  onToken_of_context (r := .poll) (f := fun u => (u.setRetry 0).setEsc true) hb he hq rfl

theorem exec_curEscLiteral (hb : s.nextBusy = true) (he : s.escPending = true) (hq : s.rxq = s.cfg.literal :: q) :
    exec .curEscLiteral s = .next (finishSpec { s with rxq := q, escPending := false } .ok s.cfg.esc) :=
  onToken_of_context (r := .poll) (f := fun u => ((u.setRetry 0).setEsc false).finishNext .ok s.cfg.esc) hb he hq rfl

theorem exec_curEscStart (hb : s.nextBusy = true) (he : s.escPending = true) (hq : s.rxq = START :: q) :
    exec .curEscStart s = .next
      (finishSpec { s with rxq := q, escPending := false, msgOpen := false, afterReturn := .awaitType } .closed SENTINEL) :=
  onToken_of_context (r := .poll) (f := fun u => ((u.setRetry 0).setEsc false).cutMessage.finishNext .closed SENTINEL)
    hb he hq rfl

theorem exec_curEscOther (hb : s.nextBusy = true) (he : s.escPending = true) (hq : s.rxq = b :: q)
    (hc : b ≠ START ∧ b ≠ END ∧ b ≠ s.cfg.literal) :
    exec (.curEscOther b) s = .next { s with rxq := q, retry := 0, escPending := false } :=
  onToken_of_context (r := .poll) (f := fun u => (u.setRetry 0).setEsc false) hb he hq ((isMalformed_iff s.cfg b).2 hc)

theorem exec_curEscEnd (hb : s.nextBusy = true) (he : s.escPending = true) (hq : s.rxq = END :: q) :
    exec .curEscEnd s = .next
      (finishSpec { s with rxq := q, escPending := false, msgOpen := false } .closed SENTINEL) :=
  onToken_of_context (r := .poll) (f := fun u => ((u.setRetry 0).setEsc false).closeMessage.finishNext .closed SENTINEL)
    hb he hq rfl

theorem exec_curEmpty (hb : s.nextBusy = true) (hq : s.rxq = []) : exec .curEmpty s = .next s.emptyPoll :=
  if_pos (by simp [State.reads, hb, hq])

theorem emptyPoll_counts (h : s.retry + 1 ≠ s.cfg.retryBudget) : s.emptyPoll = { s with retry := s.retry + 1 } :=
  if_neg fun hspent => h (beq_iff_eq.1 hspent)

theorem emptyPoll_timesOut (h : s.retry + 1 = s.cfg.retryBudget) : s.emptyPoll = finishSpec s .timeout SENTINEL :=
  if_pos (beq_iff_eq.2 h)

/-! ## NextPoll in each of its contexts, and the rows that refine it (R149) -/

theorem nextPollSpec_empty (hq : s.rxq = []) :
    nextPollSpec s =
      if s.retry + 1 = s.cfg.retryBudget then finishSpec s .timeout SENTINEL else { s with retry := s.retry + 1 } := by
  simp only [nextPollSpec, hq]

theorem nextPollSpec_byte (he : s.escPending = false) (hq : s.rxq = b :: q) :
    nextPollSpec s =
      if b = s.cfg.esc then { s with rxq := q, retry := 0, escPending := true }
      else finishSpec { s with rxq := q } .ok b := by
  simp only [nextPollSpec, hq, he, Bool.false_eq_true, if_false]

theorem nextPollSpec_pair (he : s.escPending = true) (hq : s.rxq = b :: q) :
    nextPollSpec s =
      if b = s.cfg.literal then finishSpec { s with rxq := q, escPending := false } .ok s.cfg.esc
      else if b = START then
        finishSpec { s with rxq := q, escPending := false, msgOpen := false, afterReturn := .awaitType } .closed SENTINEL
      else if b = END then finishSpec { s with rxq := q, escPending := false, msgOpen := false } .closed SENTINEL
      else { s with rxq := q, retry := 0, escPending := false } := by
  simp only [nextPollSpec, hq, he, if_true]

/-- The row that the poll's head byte decodes to does what NextPoll does. -/
theorem exec_poll_eq_nextPollSpec {e : Bool} (hb : s.nextBusy = true) (he : s.escPending = e) (hq : s.rxq = b :: q) :
    exec (decode s.cfg (.byte .poll e b)) s = .next (nextPollSpec s) := by
  cases e with
  | false =>
    rw [nextPollSpec_byte he hq]
    simp only [decode, decodeByte]
    split
    next hesc => exact exec_curEsc hb he (hesc ▸ hq)
    next hord => exact exec_curOrd hb he hq hord
  | true =>
    rw [nextPollSpec_pair he hq]
    simp only [decode, decodeByte]
    split
    next hlit => exact exec_curEscLiteral hb he (hlit ▸ hq)
    next hlit =>
      split
      next hstart => exact exec_curEscStart hb he (hstart ▸ hq)
      next hstart =>
        split
        next hend => exact exec_curEscEnd hb he (hend ▸ hq)
        next hend => exact exec_curEscOther hb he hq ⟨hstart, hend, hlit⟩

/-- The row of the empty poll does what NextPoll does. -/
theorem exec_curEmpty_eq_nextPollSpec (hb : s.nextBusy = true) (hq : s.rxq = []) :
    exec .curEmpty s = .next (nextPollSpec s) := by
  rw [exec_curEmpty hb hq, nextPollSpec_empty hq]
  split
  next hspent => rw [emptyPoll_timesOut hspent]
  next hleft => rw [emptyPoll_counts hleft]

end Rows

/-- The schedule is no input of NextPoll. -/
theorem nextPollSpec_sched (s : State) (ms : List Move) :
    nextPollSpec { s with sched := ms } = { nextPollSpec s with sched := ms } := by
  obtain ⟨l, hq⟩ : ∃ l, s.rxq = l := ⟨_, rfl⟩
  cases l with
  | nil =>
    rw [nextPollSpec_empty hq, nextPollSpec_empty (s := { s with sched := ms }) hq]
    split <;> rfl
  | cons b q =>
    obtain ⟨e, he⟩ : ∃ e, s.escPending = e := ⟨_, rfl⟩
    cases e with
    | false =>
      rw [nextPollSpec_byte he hq, nextPollSpec_byte (s := { s with sched := ms }) he hq]
      split <;> rfl
    | true =>
      rw [nextPollSpec_pair he hq, nextPollSpec_pair (s := { s with sched := ms }) he hq]
      split
      · rfl
      · split
        · rfl
        · split <;> rfl

/-- While a NEXT is in progress the poll's turn runs NextPoll. -/
theorem step_poll_eq_nextPollSpec {s : State} (ms : List Move) (hw : s.cfg.wf = true) (hb : s.nextBusy = true) :
    step { s with sched := .poll :: ms } = .next (nextPollSpec { s with sched := ms }) := by
  obtain ⟨l, hq⟩ : ∃ l, s.rxq = l := ⟨_, rfl⟩
  cases l with
  | nil =>
    rw [step_of_fetch hw (fetch_poll_empty (s := { s with sched := ms }) hb hq)]
    exact exec_curEmpty_eq_nextPollSpec (s := { s with sched := ms }) hb hq
  | cons b q =>
    rw [step_of_fetch hw (fetch_poll_byte (s := { s with sched := ms }) hb hq)]
    exact exec_poll_eq_nextPollSpec (s := { s with sched := ms }) hb rfl hq

end Sys2Proof.Machine
end

section
/-! PROOFS. The cursor commands and RETURN with the port free and no gather: HAS_NEXT's answers and the equations of its loop (R141, R143,
R144), the start of NEXT (R146 to R148), and RETURN (R160, R161). -/

namespace Sys2Proof.Machine

section Commands

variable {s : State} {b : Byte} {q : List Byte}

/-! ## HAS_NEXT -/

theorem exec_hasNext_free (hb : s.nextBusy = false) (hc : s.collect = none) : exec .hasNext s = .next s.hasNext :=
  onCommand_free State.hasNext hb hc

theorem hasNext_outside (hr : s.rxState ≠ .dispatching) :
    s.hasNext = { s with rsp := s.rsp ++ [⟨false, .notOpen, 0x00#8⟩] } :=
  if_pos (bne_iff_ne.2 hr)

theorem hasNext_dispatching (hr : s.rxState = .dispatching) (hq : s.rxq = q) : s.hasNext = hasNextLoop q s := by
  subst hq
  exact if_neg (by simp [hr])

theorem hasNextLoop_closed (q : List Byte) (hm : s.msgOpen = false) :
    hasNextLoop q s = { s with rsp := s.rsp ++ [⟨true, .closed, 0x00#8⟩] } := by
  cases q with
  | nil => exact if_pos (by simp [hm])
  | cons b q => exact if_pos (by simp [hm])

theorem hasNextLoop_nil (hm : s.msgOpen = true) :
    hasNextLoop [] s = { s with rsp := s.rsp ++ [⟨true, .ok, 0x00#8⟩] } :=
  if_neg (by simp [hm])

theorem rxRead_of_cons (hq : s.rxq = b :: q) : s.rxRead = { s with rxq := q } := by
  simp only [State.rxRead, hq, List.tail_cons]

/-- At a token boundary of an open message the loop answers an ordinary byte and consumes an ESC. -/
theorem hasNextLoop_cons (hm : s.msgOpen = true) (he : s.escPending = false) (hq : s.rxq = b :: q) :
    hasNextLoop (b :: q) s =
      if b = s.cfg.esc then hasNextLoop q { s with rxq := q, escPending := true }
      else { s with rsp := s.rsp ++ [⟨true, .ok, 0x01#8⟩] } := by
  rw [hasNextLoop, rxRead_of_cons hq, if_neg (by simp [hm]), if_pos (by simp [he])]
  simp only [bne_iff_ne, ne_eq, ite_not]
  rfl

/-- Inside a pair of an open message the loop answers a LITERAL and consumes any other code with its effect. -/
theorem hasNextLoop_cons_pair (hm : s.msgOpen = true) (he : s.escPending = true) (hq : s.rxq = b :: q) :
    hasNextLoop (b :: q) s =
      if b = s.cfg.literal then { s with rsp := s.rsp ++ [⟨true, .ok, 0x01#8⟩] }
      else if b = END then hasNextLoop q { s with rxq := q, escPending := false, msgOpen := false }
      else if b = START then
        hasNextLoop q { s with rxq := q, escPending := false, msgOpen := false, afterReturn := .awaitType }
      else hasNextLoop q { s with rxq := q, escPending := false } := by
  rw [hasNextLoop, rxRead_of_cons hq, if_neg (by simp [hm]), if_neg (by simp [he])]
  simp only [beq_iff_eq]
  rfl

/-- Where the loop consumes the head byte, HAS_NEXT is HAS_NEXT in the state without it. -/
theorem exec_hasNext_consumes {e m : Bool} {a : Resume} (hb : s.nextBusy = false) (hc : s.collect = none)
    (hr : s.rxState = .dispatching) (hq : s.rxq = b :: q)
    (hloop : hasNextLoop (b :: q) s =
      hasNextLoop q { s with rxq := q, escPending := e, msgOpen := m, afterReturn := a }) :
    exec .hasNext s = exec .hasNext { s with rxq := q, escPending := e, msgOpen := m, afterReturn := a } := by
  rw [exec_hasNext_free hb hc, exec_hasNext_free (by exact hb) (by exact hc), hasNext_dispatching hr hq, hloop,
    hasNext_dispatching (by exact hr) (by rfl)]

/-! ## NEXT, the start -/

theorem exec_next_free (hb : s.nextBusy = false) (hc : s.collect = none) : exec .next s = .next s.nextStart :=
  onCommand_free State.nextStart hb hc

theorem nextStart_outside (hr : s.rxState ≠ .dispatching) :
    s.nextStart = { s with rsp := s.rsp ++ [⟨false, .notOpen, 0x00#8⟩] } :=
  if_pos (bne_iff_ne.2 hr)

theorem nextStart_closed (hr : s.rxState = .dispatching) (hm : s.msgOpen = false) :
    s.nextStart = { s with rsp := s.rsp ++ [⟨true, .closed, SENTINEL⟩] } :=
  (if_neg (by simp [hr])).trans (if_pos (by simp [hm]))

theorem nextStart_open (hr : s.rxState = .dispatching) (hm : s.msgOpen = true) :
    s.nextStart = { s with nextBusy := true, retry := 0 } :=
  (if_neg (by simp [hr])).trans (if_neg (by simp [hm]))

/-! ## RETURN -/

theorem exec_ret_free (hb : s.nextBusy = false) (hc : s.collect = none) : exec .ret s = .next s.handlerReturn :=
  onCommand_free State.handlerReturn hb hc

theorem handlerReturn_outside (hr : s.rxState ≠ .dispatching) :
    s.handlerReturn = { s with rsp := s.rsp ++ [⟨false, .notOpen, 0x00#8⟩] } :=
  if_pos (bne_iff_ne.2 hr)

theorem handlerReturn_dispatching (hr : s.rxState = .dispatching) :
    s.handlerReturn =
      { s with
        rxState := s.afterReturn.rxState, msgOpen := false, curHandler := none, curType := none, afterReturn := .idle
        rsp := s.rsp ++ [⟨true, .ok, 0x00#8⟩] } :=
  if_neg (by simp [hr])

end Commands

end Sys2Proof.Machine
end

section
/-! PROOFS. The obligations on the payload cursor's rows and commands. -/

namespace Sys2Proof.Machine

/-- Settles O15: by the queue and the escape-pending flag, the row that the poll decodes is NextPoll's own case. -/
theorem pollStepFollowsNextPoll : Obligations.PollStepFollowsNextPoll := by
  unfold Obligations.PollStepFollowsNextPoll
  intro s ms hw
  refine ⟨fetch_poll_isSome_iff s, fun hb => ?_⟩
  rw [step_poll_eq_nextPollSpec ms hw hb, nextPollSpec_sched]

/-- Settles O21: each answer and each equation is one case of the loop; an admitted LITERAL is neither END nor START. -/
theorem hasNextFollowsItsLoop : Obligations.HasNextFollowsItsLoop := by
  unfold Obligations.HasNextFollowsItsLoop
  intro s hw hfree hnone
  obtain ⟨hstart, hend, -⟩ := (config_wf_iff s.cfg).1 hw
  have run : exec .hasNext s = .next s.hasNext := exec_hasNext_free hfree hnone
  refine ⟨⟨_, run⟩, fun hr => ?outside, fun hr hm => ?closed, fun hr hm => ⟨fun hq => ?empty, fun b q hq => ?head⟩⟩
  case outside => rw [run, hasNext_outside hr]
  case closed => rw [run, hasNext_dispatching hr rfl, hasNextLoop_closed _ hm]
  case empty => rw [run, hasNext_dispatching hr hq, hasNextLoop_nil hm]
  case head =>
    refine ⟨fun he hb => ?ordinary, fun he hb => ?esc, fun he hb => ?literal, fun he hb => ?stop, fun he hb => ?start,
      fun he hlit hstop hbegin => ?malformed⟩
    case ordinary => rw [run, hasNext_dispatching hr hq, hasNextLoop_cons hm he hq, if_neg hb]
    case literal => rw [run, hasNext_dispatching hr hq, hasNextLoop_cons_pair hm he hq, if_pos hb]
    case esc =>
      refine exec_hasNext_consumes hfree hnone hr hq ?_
      rw [hasNextLoop_cons hm he hq, if_pos hb]
    case stop =>
      refine exec_hasNext_consumes hfree hnone hr hq ?_
      rw [hasNextLoop_cons_pair hm he hq, if_neg (hb ▸ hend.symm), if_pos hb]
    case start =>
      refine exec_hasNext_consumes hfree hnone hr hq ?_
      rw [hasNextLoop_cons_pair hm he hq, if_neg (hb ▸ hstart.symm), if_neg (hb ▸ start_ne_end), if_pos hb]
    case malformed =>
      refine exec_hasNext_consumes hfree hnone hr hq ?_
      rw [hasNextLoop_cons_pair hm he hq, if_neg hlit, if_neg hstop, if_neg hbegin]

/-- Settles O16: the two rows that carry a data byte. -/
theorem cursorTokensDeliver : Obligations.CursorTokensDeliver := by
  unfold Obligations.CursorTokensDeliver
  intro s q hb
  exact ⟨fun d hd he hq => exec_curOrd hb he hq hd, exec_curEscLiteral hb⟩

/-- Settles O17: the two rows that neither deliver nor close. -/
theorem cursorTokensKeepPolling : Obligations.CursorTokensKeepPolling := by
  unfold Obligations.CursorTokensKeepPolling
  intro s q hb
  exact ⟨exec_curEsc hb, fun c hstart hend hlit he hq => exec_curEscOther hb he hq ⟨hstart, hend, hlit⟩⟩

/-- Settles O18: the two rows that close the message. -/
theorem cursorTokensClose : Obligations.CursorTokensClose := by
  unfold Obligations.CursorTokensClose
  intro s q hb he
  exact ⟨exec_curEscStart hb he, exec_curEscEnd hb he⟩

/-- Settles O19: the poll of an empty queue, by whether its count reaches the budget. -/
theorem emptyPollCountsOrTimesOut : Obligations.EmptyPollCountsOrTimesOut := by
  unfold Obligations.EmptyPollCountsOrTimesOut
  intro s hb hq
  rw [exec_curEmpty hb hq]
  exact ⟨fun hleft => congrArg _ (emptyPoll_counts hleft), fun hspent => congrArg _ (emptyPoll_timesOut hspent)⟩

/-- Settles O24: the three cases of NextStart. -/
theorem nextStartsOrAnswersAtOnce : Obligations.NextStartsOrAnswersAtOnce := by
  unfold Obligations.NextStartsOrAnswersAtOnce
  intro s hfree hnone
  rw [exec_next_free hfree hnone]
  exact ⟨fun hr => congrArg _ (nextStart_outside hr), fun hr hm => congrArg _ (nextStart_closed hr hm),
    fun hr hm => congrArg _ (nextStart_open hr hm)⟩

/-- Settles O26: the two cases of Return. -/
theorem returnEndsTheDispatch : Obligations.ReturnEndsTheDispatch := by
  unfold Obligations.ReturnEndsTheDispatch
  intro s hfree hnone
  rw [exec_ret_free hfree hnone]
  exact ⟨fun hr => congrArg _ (handlerReturn_outside hr), fun hr => congrArg _ (handlerReturn_dispatching hr)⟩

end Sys2Proof.Machine
end

section
/-! PROOFS. The send operations by the state of the one send guard (R180 to R184), and that no command of the encoder touches the receive half
(R189). -/

namespace Sys2Proof.Machine

theorem onDataBeat_busy {s : State} (effect : State → State) (hb : s.nextBusy = true) : onDataBeat s effect = .next s :=
  if_pos hb

section Sends

variable {s : State}

/-! ## Wire bytes -/

/-- The encoding of a data byte keeps the byte in front, which for ESC is R181's `ESC LITERAL`. -/
theorem enc_eq_cons (cfg : Config) (b : Byte) : enc cfg b = if b = cfg.esc then [b, cfg.literal] else [b] := by
  by_cases h : b = cfg.esc
  · rw [if_pos h, h, enc_esc]
  · rw [if_neg h, enc_of_ne h]

theorem frame_nil (cfg : Config) (t : Byte) : frame cfg t [] = openBytes cfg t ++ closeBytes cfg := by
  rw [frame_eq, List.flatMap_nil, List.append_nil]

/-! ## The operations, with the guard up and down -/

theorem beginSend_of_txOpen (h : s.txOpen = true) (t : Byte) :
    s.beginSend t = { s with rsp := s.rsp ++ [⟨false, .sendOpen, 0x00#8⟩] } :=
  if_pos h

theorem beginSend_of_not_txOpen (h : s.txOpen = false) (t : Byte) :
    s.beginSend t =
      { s with
        txOpen := true, txlog := s.txlog ++ openBytes s.cfg t, rsp := s.rsp ++ [⟨true, .ok, 0x00#8⟩] } :=
  if_neg (by simp [h])

theorem sendByte_of_not_txOpen (h : s.txOpen = false) (b : Byte) :
    s.sendByte b = { s with rsp := s.rsp ++ [⟨false, .noSend, 0x00#8⟩] } :=
  if_pos (by simp [h])

theorem sendByte_of_txOpen (h : s.txOpen = true) (b : Byte) :
    s.sendByte b = { s with txlog := s.txlog ++ enc s.cfg b, rsp := s.rsp ++ [⟨true, .ok, 0x00#8⟩] } :=
  if_neg (by simp [h])

theorem endSend_of_not_txOpen (h : s.txOpen = false) :
    s.endSend = { s with rsp := s.rsp ++ [⟨false, .noSend, 0x00#8⟩] } :=
  if_pos (by simp [h])

theorem endSend_of_txOpen (h : s.txOpen = true) :
    s.endSend =
      { s with
        txOpen := false, txlog := s.txlog ++ closeBytes s.cfg, rsp := s.rsp ++ [⟨true, .ok, 0x00#8⟩] } :=
  if_neg (by simp [h])

theorem sendWhole_of_txOpen (h : s.txOpen = true) (t : Byte) (bs : List Byte) :
    s.sendWhole t bs = { s with rsp := s.rsp ++ [⟨false, .sendOpen, 0x00#8⟩] } :=
  if_pos h

theorem sendWhole_of_not_txOpen (h : s.txOpen = false) (t : Byte) (bs : List Byte) :
    s.sendWhole t bs = { s with txlog := s.txlog ++ frame s.cfg t bs, rsp := s.rsp ++ [⟨true, .ok, 0x00#8⟩] } :=
  if_neg (by simp [h])

end Sends

section ReceiveHalf

/-! ## Replacing the receive half commutes with each operation of the send half (R189) -/

variable (s r : State)

theorem beginSend_withReceive (t : Byte) : (s.withReceive r).beginSend t = (s.beginSend t).withReceive r := by
  cases h : s.txOpen with
  | false => rw [beginSend_of_not_txOpen h, beginSend_of_not_txOpen (by exact h)]; rfl
  | true => rw [beginSend_of_txOpen h, beginSend_of_txOpen (by exact h)]; rfl

theorem sendByte_withReceive (b : Byte) : (s.withReceive r).sendByte b = (s.sendByte b).withReceive r := by
  cases h : s.txOpen with
  | false => rw [sendByte_of_not_txOpen h, sendByte_of_not_txOpen (by exact h)]; rfl
  | true => rw [sendByte_of_txOpen h, sendByte_of_txOpen (by exact h)]; rfl

theorem endSend_withReceive : (s.withReceive r).endSend = s.endSend.withReceive r := by
  cases h : s.txOpen with
  | false => rw [endSend_of_not_txOpen h, endSend_of_not_txOpen (by exact h)]; rfl
  | true => rw [endSend_of_txOpen h, endSend_of_txOpen (by exact h)]; rfl

theorem sendWhole_withReceive (t : Byte) (bs : List Byte) :
    (s.withReceive r).sendWhole t bs = (s.sendWhole t bs).withReceive r := by
  cases h : s.txOpen with
  | false => rw [sendWhole_of_not_txOpen h, sendWhole_of_not_txOpen (by exact h)]; rfl
  | true => rw [sendWhole_of_txOpen h, sendWhole_of_txOpen (by exact h)]; rfl

theorem setCollect_withReceive (c : Option Collect) :
    (s.withReceive r).setCollect c = (s.setCollect c).withReceive r := rfl

theorem sendBufHeader_withReceive (t : Byte) (len : BitVec 16) :
    (s.withReceive r).sendBufHeader t len = (s.sendBufHeader t len).withReceive r := by
  unfold State.sendBufHeader
  split
  · exact sendWhole_withReceive s r t []
  · exact setCollect_withReceive s r _

/-- A data beat branches on the gather alone, which is no part of the receive half. -/
theorem sendBufBeat_withReceive (b : Byte) : (s.withReceive r).sendBufBeat b = (s.sendBufBeat b).withReceive r := by
  cases h : s.collect with
  | none => rw [sendBufBeat_stray h, sendBufBeat_stray (by exact h)]; rfl
  | some c =>
    have h' : (s.withReceive r).collect = some c := h
    simp only [State.sendBufBeat, h, h']
    split
    · rw [setCollect_withReceive, sendWhole_withReceive]
    · exact setCollect_withReceive s r _

theorem interruptGather_withReceive : (s.withReceive r).interruptGather = s.interruptGather.withReceive r := by
  cases h : s.collect with
  | none => rw [interruptGather_none h, interruptGather_none (by exact h)]
  | some c => rw [interruptGather_some h, interruptGather_some (by exact h)]; rfl

variable {r} (effect : State → State)

/-- The port and the interrupt of a gather read no field of the receive half, so a command commutes with its replacement when its effect does. -/
theorem onCommand_withReceive (heffect : ∀ u : State, effect (u.withReceive r) = (effect u).withReceive r) :
    onCommand (s.withReceive r) effect = mapNext (fun u => u.withReceive r) (onCommand s effect) := by
  cases hb : s.nextBusy with
  | true => rw [onCommand_busy effect hb, onCommand_busy effect (by exact hb)]; rfl
  | false =>
    rw [onCommand_ready effect hb, onCommand_ready effect (by exact hb), interruptGather_withReceive, heffect]; rfl

theorem onDataBeat_withReceive (heffect : ∀ u : State, effect (u.withReceive r) = (effect u).withReceive r) :
    onDataBeat (s.withReceive r) effect = mapNext (fun u => u.withReceive r) (onDataBeat s effect) := by
  cases hb : s.nextBusy with
  | true => rw [onDataBeat_busy effect hb, onDataBeat_busy effect (by exact hb)]; rfl
  | false => rw [onDataBeat_ready effect hb, onDataBeat_ready effect (by exact hb), heffect]; rfl

end ReceiveHalf

end Sys2Proof.Machine
end

section
/-! PROOFS. The obligations on the encoder's commands. -/

namespace Sys2Proof.Machine

/-- Settles O40: the port commutes with replacing the receive half, and so does the effect of each command of the encoder. -/
theorem encoderIgnoresTheReceiveHalf : Obligations.EncoderIgnoresTheReceiveHalf := by
  unfold Obligations.EncoderIgnoresTheReceiveHalf
  intro s r i hi
  cases i with
  | beginSend t => exact onCommand_withReceive s (fun u => u.beginSend t) fun u => beginSend_withReceive u r t
  | sendByte b => exact onCommand_withReceive s (fun u => u.sendByte b) fun u => sendByte_withReceive u r b
  | endSend => exact onCommand_withReceive s State.endSend fun u => endSend_withReceive u r
  | send t => exact onCommand_withReceive s (fun u => u.sendWhole t []) fun u => sendWhole_withReceive u r t []
  | sendBuf t len => exact onCommand_withReceive s (fun u => u.sendBufHeader t len) fun u => sendBufHeader_withReceive u r t len
  | sendBufData b => exact onDataBeat_withReceive s (fun u => u.sendBufBeat b) fun u => sendBufBeat_withReceive u r b
  | _ => cases hi

/-- Settles O30: the two cases of BeginSend. -/
theorem beginSendOpensAFrame : Obligations.BeginSendOpensAFrame := by
  unfold Obligations.BeginSendOpensAFrame
  intro s t hfree hnone
  have run : exec (.beginSend t) s = .next (s.beginSend t) := onCommand_free (fun s => s.beginSend t) hfree hnone
  rw [run]
  exact ⟨fun hup => congrArg _ (beginSend_of_txOpen hup t), fun hdown => congrArg _ (beginSend_of_not_txOpen hdown t)⟩

/-- Settles O31: the two cases of SendByte. -/
theorem sendByteWritesEscaped : Obligations.SendByteWritesEscaped := by
  unfold Obligations.SendByteWritesEscaped
  intro s b hfree hnone
  have run : exec (.sendByte b) s = .next (s.sendByte b) := onCommand_free (fun s => s.sendByte b) hfree hnone
  rw [run, ← enc_eq_cons]
  exact ⟨fun hdown => congrArg _ (sendByte_of_not_txOpen hdown b), fun hup => congrArg _ (sendByte_of_txOpen hup b)⟩

/-- Settles O32: the two cases of EndSend. -/
theorem endSendClosesTheFrame : Obligations.EndSendClosesTheFrame := by
  unfold Obligations.EndSendClosesTheFrame
  intro s hfree hnone
  have run : exec .endSend s = .next s.endSend := onCommand_free State.endSend hfree hnone
  rw [run]
  exact ⟨fun hdown => congrArg _ (endSend_of_not_txOpen hdown), fun hup => congrArg _ (endSend_of_txOpen hup)⟩

/-- Settles O33: the two cases of SendBuf with no bytes, whose frame is what opens one and what closes it. -/
theorem sendWritesAnEmptyFrame : Obligations.SendWritesAnEmptyFrame := by
  unfold Obligations.SendWritesAnEmptyFrame
  intro s t hfree hnone
  have run : exec (.send t) s = .next (s.sendWhole t []) := onCommand_free (fun s => s.sendWhole t []) hfree hnone
  rw [run]
  refine ⟨fun hup => congrArg _ (sendWhole_of_txOpen hup t []), fun hdown => ?_⟩
  rw [sendWhole_of_not_txOpen hdown, frame_nil]
  rfl

end Sys2Proof.Machine
end

section
/-! PROOFS. REGISTER in range and out of range (R210, R211), and the lookups that follow it (R212). -/

namespace Sys2Proof.Machine

section Register

variable {s : State} {t : Byte} (h : HandlerId)

theorem exec_register_free (t : Byte) (hb : s.nextBusy = false) (hc : s.collect = none) :
    exec (.register t h) s = .next (s.registerType t h) :=
  onCommand_free (fun s => s.registerType t h) hb hc

theorem registerType_outOfRange (ht : s.cfg.nTypes ≤ t.toNat) :
    s.registerType t h = { s with rsp := s.rsp ++ [⟨false, .range, 0x00#8⟩] } :=
  if_pos (by simpa [inRange] using ht)

theorem registerType_inRange (ht : t.toNat < s.cfg.nTypes) :
    s.registerType t h =
      { s with table := s.table.set t.toNat (some h), rsp := s.rsp ++ [⟨true, .ok, 0x00#8⟩] } :=
  if_neg (by simpa [inRange] using ht)

/-- The answer is no part of the table, so a lookup after REGISTER is a lookup after the table write. -/
theorem lookup_registerType (v : Byte) (ht : t.toNat < s.cfg.nTypes) (hw : s.tableWf = true) :
    (s.registerType t h).lookup v = if v = t then some h else s.lookup v := by
  rw [registerType_inRange h ht, ← lookup_tableWrite s t v h hw ht]
  exact lookup_congr rfl rfl v

theorem tableWf_registerType (ht : t.toNat < s.cfg.nTypes) : (s.registerType t h).tableWf = s.tableWf := by
  rw [registerType_inRange h ht, ← tableWf_tableWrite s t h]
  rfl

end Register

end Sys2Proof.Machine
end

section
/-! PROOFS. The obligations on the handler table's command. -/

namespace Sys2Proof.Machine

/-- Settles O42: the two cases of Register, and the lookups and the form of the table after the one that writes. -/
theorem registerWritesItsSlot : Obligations.RegisterWritesItsSlot := by
  unfold Obligations.RegisterWritesItsSlot
  intro s t h hfree hnone
  rw [exec_register_free h t hfree hnone]
  refine ⟨fun hout => congrArg _ (registerType_outOfRange h hout), fun hin => congrArg _ (registerType_inRange h hin),
    fun hin hw u hu => ?_⟩
  obtain rfl := Host.Outcome.next.inj hu
  refine ⟨?same, fun v hv => ?other, ?form⟩
  case same => rw [lookup_registerType h t hin hw, if_pos rfl]
  case other => rw [lookup_registerType h v hin hw, if_neg hv]
  case form => rw [tableWf_registerType h hin, hw]

end Sys2Proof.Machine
end

section
/-! PROOFS. Engine turns and polls in a schedule: one turn is one RxStep or NextPoll, two turns consume an escape pair, a run of polls of
an empty queue only counts (R102, R149, R156); and what a malformed pair is to HAS_NEXT (R141, R231). -/

namespace Sys2Proof.Machine

/-! ## Turns of a schedule -/

section Turns

variable {s : State} {b c : Byte} {q : List Byte}

/-- The engine's step (R102) at the head of a schedule; `drive` overwrites the schedule that RxStep carries along. -/
theorem drive_engine (ms : List Move) (hw : s.cfg.wf = true) (hr : s.rxState ≠ .dispatching) (hq : s.rxq = b :: q) :
    drive (.engine :: ms) s = drive ms (rxStepSpec { s with rxq := q } b) := by
  rw [drive_cons ((engineStepFollowsRxStep s ms hw).2 b q hr hq) rfl]
  rfl

/-- The poll (R149) at the head of a schedule, in the same way. -/
theorem drive_poll (ms : List Move) (hw : s.cfg.wf = true) (hb : s.nextBusy = true) :
    drive (.poll :: ms) s = drive ms (nextPollSpec s) := by
  rw [drive_cons ((pollStepFollowsNextPoll s ms hw).2 hb) rfl]
  rfl

theorem rxStepSpec_esc (hr : s.rxState ≠ .dispatching) (he : s.escPending = false) :
    rxStepSpec s s.cfg.esc = { s with escPending := true } := by
  obtain ⟨r, hs⟩ : ∃ r, s.rxState = r := ⟨_, rfl⟩
  cases r with
  | idle => rw [rxStepSpec_idle hs he, if_pos rfl]
  | awaitType => rw [rxStepSpec_awaitType hs he, if_pos rfl]
  | dispatching => exact absurd hs hr

/-! ## Escape pairs -/

/-- Two engine turns on an escape pair are RxStep on its code, read inside the pair. -/
theorem drive_engine_pair (ms : List Move) (hw : s.cfg.wf = true) (hr : s.rxState ≠ .dispatching)
    (he : s.escPending = false) (hq : s.rxq = s.cfg.esc :: c :: q) :
    drive (.engine :: .engine :: ms) s = drive ms (rxStepSpec { s with rxq := q, escPending := true } c) := by
  have hesc : rxStepSpec { s with rxq := c :: q } s.cfg.esc = { s with rxq := c :: q, escPending := true } :=
    rxStepSpec_esc (s := { s with rxq := c :: q }) hr he
  rw [drive_engine _ hw hr hq, hesc, drive_engine ms (by exact hw) (by exact hr) rfl]

/-- Two polls on an escape pair are NextPoll on its code, read inside the pair. -/
theorem drive_poll_pair (ms : List Move) (hw : s.cfg.wf = true) (hb : s.nextBusy = true) (he : s.escPending = false)
    (hq : s.rxq = s.cfg.esc :: c :: q) :
    drive (.poll :: .poll :: ms) s =
      drive ms (nextPollSpec { s with rxq := c :: q, retry := 0, escPending := true }) := by
  rw [drive_poll _ hw hb, nextPollSpec_byte he hq, if_pos rfl, drive_poll ms (by exact hw) (by exact hb)]

theorem exec_hasNext_interrupts {g : Collect} (hb : s.nextBusy = false) (hc : s.collect = some g) :
    exec .hasNext s = exec .hasNext { s with collect := none, rsp := s.rsp ++ [⟨false, .illegal, 0x00#8⟩] } :=
  onCommand_interrupts State.hasNext hb hc

/-- With no gather open, HAS_NEXT drains a malformed pair as its loop's two consuming passes. -/
theorem exec_hasNext_malformedPair_free (hw : s.cfg.wf = true) (hcode : c ≠ START ∧ c ≠ END ∧ c ≠ s.cfg.literal)
    (he : s.escPending = false) (hq : s.rxq = s.cfg.esc :: c :: q) (hr : s.rxState = .dispatching)
    (hm : s.msgOpen = true) (hb : s.nextBusy = false) (hc : s.collect = none) :
    exec .hasNext s = exec .hasNext { s with rxq := q } := by
  obtain ⟨hstart, hend, hlit⟩ := hcode
  obtain ⟨-, -, -, openLoop⟩ := hasNextFollowsItsLoop s hw hb hc
  obtain ⟨-, consumesEsc, -⟩ := (openLoop hr hm).2 s.cfg.esc (c :: q) hq
  obtain ⟨-, -, -, pairLoop⟩ := hasNextFollowsItsLoop { s with rxq := c :: q, escPending := true } hw hb hc
  obtain ⟨-, -, -, -, -, dropsPair⟩ := (pairLoop hr hm).2 c q rfl
  rw [consumesEsc he rfl, dropsPair rfl hlit hend hstart, ← he]

/-- HAS_NEXT answers and does in front of a malformed pair what it does without it; an open gather is interrupted all the same. -/
theorem exec_hasNext_malformedPair (hw : s.cfg.wf = true) (hcode : c ≠ START ∧ c ≠ END ∧ c ≠ s.cfg.literal)
    (he : s.escPending = false) (hq : s.rxq = s.cfg.esc :: c :: q) (hr : s.rxState = .dispatching)
    (hm : s.msgOpen = true) (hb : s.nextBusy = false) :
    exec .hasNext s = exec .hasNext { s with rxq := q } := by
  obtain ⟨gather, hc⟩ : ∃ gather, s.collect = gather := ⟨_, rfl⟩
  cases gather with
  | none => exact exec_hasNext_malformedPair_free hw hcode he hq hr hm hb hc
  | some g =>
    rw [exec_hasNext_interrupts hb hc, exec_hasNext_interrupts (s := { s with rxq := q }) hb hc]
    exact exec_hasNext_malformedPair_free hw hcode he hq hr hm hb rfl

/-! ## Polls of an empty queue (R156, R236) -/

/-- Polls of an empty queue that stay below the budget only raise the count. -/
theorem drive_emptyPolls (n : Nat) (ms : List Move) (hw : s.cfg.wf = true) (hb : s.nextBusy = true) (hq : s.rxq = [])
    (hn : s.retry + n < s.cfg.retryBudget) :
    drive (List.replicate n .poll ++ ms) s = drive ms { s with retry := s.retry + n } := by
  induction n generalizing s with
  | zero => rfl
  | succ n ih =>
    have hcount : nextPollSpec s = { s with retry := s.retry + 1 } := by
      rw [nextPollSpec_empty hq, if_neg (by omega)]
    have hbelow : s.retry + 1 + n < s.cfg.retryBudget := by omega
    rw [List.replicate_succ, List.cons_append, drive_poll _ hw hb, hcount,
      ih (s := { s with retry := s.retry + 1 }) hw hb hq hbelow, Nat.add_right_comm, Nat.add_assoc]

theorem drive_lastEmptyPoll (ms : List Move) (hw : s.cfg.wf = true) (hb : s.nextBusy = true) (hq : s.rxq = [])
    (hlast : s.retry + 1 = s.cfg.retryBudget) :
    drive (.poll :: ms) s = drive ms (finishSpec s .timeout SENTINEL) := by
  rw [drive_poll ms hw hb, nextPollSpec_empty hq, if_pos hlast]

end Turns

end Sys2Proof.Machine
end

section
/-! PROOFS. The obligations on malformed input and on the retry budget (60_exceptions.md). -/

namespace Sys2Proof.Machine

/-- Settles O13: ESC begins a pair in each context, and the pair's code falls through to the context's last case. -/
theorem malformedPairsAreSilent : Obligations.MalformedPairsAreSilent := by
  unfold Obligations.MalformedPairsAreSilent
  intro s c q hw hstart hend hlit he hq
  refine ⟨fun hr => ?idle, fun hr => ?awaitType, fun hb => ?poll, fun hr hm hb => ?hasNext⟩
  case idle =>
    rw [drive_engine_pair [] hw (by simp [hr]) he hq, rxStepSpec_idle_pair (by exact hr) rfl, if_neg hstart, drive_nil, ← he]
  case awaitType =>
    rw [drive_engine_pair [] hw (by simp [hr]) he hq, rxStepSpec_awaitType_pair (by exact hr) rfl, if_neg hlit,
      if_neg hstart, drive_nil, ← he]
  case poll =>
    rw [drive_poll_pair [] hw hb he hq, nextPollSpec_pair rfl rfl, if_neg hlit, if_neg hstart, if_neg hend, drive_nil, ← he]
  case hasNext => exact exec_hasNext_malformedPair hw ⟨hstart, hend, hlit⟩ he hq hr hm hb

/-- Settles O20: the polls below the budget only count, and the one that reaches it ends the NEXT. -/
theorem timeoutAfterRetryBudget : Obligations.TimeoutAfterRetryBudget := by
  unfold Obligations.TimeoutAfterRetryBudget
  intro s hw hb hretry hq
  have counts (n : Nat) (ms : List Move) (hn : n < s.cfg.retryBudget) :
      drive (List.replicate n .poll ++ ms) s = drive ms { s with retry := n } := by
    rw [drive_emptyPolls n ms hw hb hq (by omega), hretry, Nat.zero_add]
  refine ⟨fun n hn => ?below, ?last⟩
  case below => rw [← List.append_nil (List.replicate n Move.poll), counts n [] hn, drive_nil]
  case last =>
    obtain ⟨-, -, -, -, hpos⟩ := (config_wf_iff s.cfg).1 hw
    obtain ⟨k, hk⟩ := Nat.exists_eq_add_of_le' hpos
    rw [hk, List.replicate_succ', counts k [.poll] (by omega),
      drive_lastEmptyPoll [] (by exact hw) (by exact hb) (by exact hq) hk.symm, drive_nil, finishSpec, ← hretry]

end Sys2Proof.Machine
end

section
/-! PROOFS. The reset (70_reset_and_hazards.md, R260, R261), and what the cursor commands and RETURN answer outside a dispatch (R143, R147,
R161). -/

namespace Sys2Proof.Machine

/-- A reset is enabled in every state and runs no instruction: its whole step is the block's reset. -/
theorem step_reset {s : State} (ms : List Move) (hw : s.cfg.wf = true) :
    step { s with sched := .reset :: ms } = .next ({ s with sched := ms } : State).resetBlock :=
  step_of_no_fetch hw rfl

/-- Outside a dispatch, the three commands that need one get NOT_OPEN and change nothing else. -/
theorem exec_dispatchCommand_outside {s : State} {i : Instr} (hi : i = .hasNext ∨ i = .next ∨ i = .ret)
    (hb : s.nextBusy = false) (hc : s.collect = none) (hr : s.rxState ≠ .dispatching) :
    exec i s = .next { s with rsp := s.rsp ++ [⟨false, .notOpen, 0x00#8⟩] } := by
  obtain rfl | rfl | rfl := hi
  · rw [exec_hasNext_free hb hc, hasNext_outside hr]
  · rw [exec_next_free hb hc, nextStart_outside hr]
  · rw [exec_ret_free hb hc, handlerReturn_outside hr]

/-- Settles O52: the reset's step leaves the port free, no gather and no dispatch, where each of the three commands gets NOT_OPEN. -/
theorem resetGivesTheResetValues : Obligations.ResetGivesTheResetValues := by
  unfold Obligations.ResetGivesTheResetValues
  intro s ms hw
  refine ⟨({ s with sched := ms } : State).resetBlock, step_reset ms hw, rfl, fun i hi => ?_⟩
  exact exec_dispatchCommand_outside hi (State.resetBlock_nextBusy _) (State.resetBlock_collect _) (by simp)

end Sys2Proof.Machine
end

section
/-! PROOFS. Decoding and encoding are inverse to each other (30_encoding.md): wire bytes in their context, command words less the bits their
command does not use (R80), and the tokens of R70 to R78. -/

namespace Sys2Proof

/-! ## Wire bytes in context -/

/-- A byte comes back whole: each case of the decoder fixes the byte or carries it as its operand. -/
theorem encode_decodeByte (cfg : Config) (r : Reader) (e : Bool) (b : Byte) :
    encode cfg (decodeByte cfg r e b) = .byte r e b := by
  cases r with
  | idle | awaitType | poll =>
    cases e with
    | false | true =>
      simp only [decodeByte]
      split_ifs <;> simp_all [encode]

theorem wf_decodeByte (cfg : Config) (r : Reader) (e : Bool) (b : Byte) : (decodeByte cfg r e b).wf cfg = true := by
  cases r with
  | idle | awaitType | poll =>
    cases e with
    | false | true =>
      simp only [decodeByte]
      split_ifs <;> simp_all [Instr.wf, Config.malformedCode]

/-! ## Command words -/

theorem and_opAMask (w : CmdWord) : w &&& 0xFFFF0000#32 = wordOf (opField w) (aField w) 0#16 := by
  have h := wordOf_and_opAMask (opField w) (aField w) (bField w)
  rwa [wordOf_fields] at h

theorem wf_decodeCommand (cfg : Config) (w : CmdWord) : (decodeCommand w).wf cfg = true := by
  simp only [decodeCommand]
  split_ifs <;> simp_all [Instr.wf, assignedOps]

/-- A word comes back as the fields its command uses, the others zero (R80). -/
theorem encode_decodeCommand (cfg : Config) (w : CmdWord) :
    encode cfg (decodeCommand w) = .word (w &&& usedBits (decodeCommand w)) := by
  have hall : w &&& 0xFFFFFFFF#32 = wordOf (opField w) (aField w) (bField w) :=
    BitVec.and_allOnes.trans (wordOf_fields w).symm
  simp only [decodeCommand]
  split_ifs with h <;> simp_all only [encode, usedBits, and_opMask, and_opAMask]

/-- No command needs an admitted configuration to be recognised: a word is read by its fields alone. -/
theorem decodeCommand_of_encode {cfg : Config} {i : Instr} {w : CmdWord} (h : encode cfg i = .word w)
    (hi : i.wf cfg = true) : decodeCommand w = i := by
  cases i with
  | beginSend _ | sendByte _ | endSend | send _ | sendBuf _ _ | sendBufData _ | register _ _ | hasNext | next | ret =>
    cases h
    simp [decodeCommand]
  | reserved op =>
    cases h
    rw [decodeCommand_reserved (by simpa [Instr.wf] using hi), opField_wordOf]
  | _ => cases h

/-! ## Tokens -/

/-- A token sequence is cut back into exactly its tokens, and what follows it is cut as if it stood alone. -/
theorem tokenize_tokens_append {cfg : Config} (hw : cfg.wf = true) (ks : List Token) (hks : ∀ k ∈ ks, k.wf cfg = true)
    (bs : List Byte) :
    tokenize cfg false (ks.flatMap (Token.bytes cfg) ++ bs) =
      (ks ++ (tokenize cfg false bs).1, (tokenize cfg false bs).2) := by
  induction ks with
  | nil => rfl
  | cons k ks ih =>
    obtain ⟨hk, hrest⟩ := List.forall_mem_cons.1 hks
    rw [List.flatMap_cons, List.append_assoc, tokenize_token_append hw k hk, ih hrest]
    rfl

theorem tokenize_tokens {cfg : Config} (hw : cfg.wf = true) (ks : List Token) (hks : ∀ k ∈ ks, k.wf cfg = true) :
    tokenize cfg false (ks.flatMap (Token.bytes cfg)) = (ks, false) := by
  have h := tokenize_tokens_append hw ks hks []
  simpa [tokenize] using h

/-- What `enc` writes for data bytes are the bytes of their data tokens (R74). -/
theorem flatMap_enc_eq_tokens (cfg : Config) (vs : List Byte) :
    vs.flatMap (Machine.enc cfg) = (vs.map (dataToken cfg)).flatMap (Token.bytes cfg) := by
  simp only [List.flatMap_map, dataToken_bytes]

theorem tokenize_enc {cfg : Config} (hw : cfg.wf = true) (vs : List Byte) :
    tokenize cfg false (vs.flatMap (Machine.enc cfg)) = (vs.map (dataToken cfg), false) := by
  rw [flatMap_enc_eq_tokens]
  exact tokenize_tokens hw _ (List.forall_mem_map.2 fun v _ => dataToken_wf cfg v)

theorem enc_injective {cfg : Config} (hw : cfg.wf = true) {v u : Byte} (h : Machine.enc cfg v = Machine.enc cfg u) :
    v = u := by
  have token (x : Byte) : tokenize cfg false (Machine.enc cfg x) = ([dataToken cfg x], false) := by
    simpa using tokenize_enc hw [x]
  have hdata := congrArg (fun r => r.1.map (Token.data cfg)) ((token v).symm.trans ((congrArg _ h).trans (token u)))
  simpa [dataToken_data] using hdata

end Sys2Proof
end

section
/-! PROOFS. The obligations on the decoder, the encoder and the tokens. -/

namespace Sys2Proof

/-- Settles O3: the operand conditions of a wire row exclude the decoder's earlier cases, and a command word is read by its fields. -/
theorem decodeOfEncodeIsTheInstruction : Obligations.DecodeOfEncodeIsTheInstruction := by
  unfold Obligations.DecodeOfEncodeIsTheInstruction
  intro cfg hw i hi
  obtain ⟨hstart, hend, -⟩ := (Machine.config_wf_iff cfg).1 hw
  cases i with
  | rxIdleOrd d | rxAwaitType d | curOrd d => exact if_neg (bne_iff_ne.1 hi)
  | rxIdleEsc | rxAwaitEsc | curEsc => exact if_pos rfl
  | rxIdleEscOther c | rxAwaitEscOther c | curEscOther c =>
    obtain ⟨h1, h2, h3⟩ := (Machine.isMalformed_iff cfg c).1 hi
    simp [encode, decode, decodeByte, h1, h2, h3]
  | rxIdleEscStart | rxIdleEscEnd | rxIdleEscLiteral | rxAwaitEscStart | rxAwaitEscEnd | rxAwaitEscLiteral | curEscStart
  | curEscEnd | curEscLiteral =>
    simp [encode, decode, decodeByte, hstart, hend, hstart.symm, hend.symm]
  | curEmpty => rfl
  | _ => exact decodeCommand_of_encode rfl hi

/-- Settles O4: byte and word come back by the decoder's cases, and a word with its unused bits cleared is the encoding of what it decodes to. -/
theorem encodeOfDecodeIsTheBeat : Obligations.EncodeOfDecodeIsTheBeat := by
  unfold Obligations.EncodeOfDecodeIsTheBeat
  intro cfg
  refine ⟨encode_decodeByte cfg, encode_decodeCommand cfg, fun w => ?cleared, fun beat => ?wf⟩
  case cleared => exact decodeCommand_of_encode (encode_decodeCommand cfg w) (wf_decodeCommand cfg w)
  case wf =>
    cases beat with
    | byte r e b => exact wf_decodeByte cfg r e b
    | empty => rfl
    | word w => exact wf_decodeCommand cfg w

/-- Settles O5: a token at the front is read whole, and data bytes are written as data tokens. -/
theorem tokensAreUniquelyDecodable : Obligations.TokensAreUniquelyDecodable := by
  unfold Obligations.TokensAreUniquelyDecodable
  intro cfg hw
  refine ⟨tokenize_tokens hw, fun vs => ?data, fun v u => enc_injective hw⟩
  case data =>
    rw [tokenize_enc hw, List.map_map]
    exact ⟨List.map_congr_left fun v _ => dataToken_data cfg v, rfl⟩

/-- Settles O2: each beat is evaluated by the decoder. -/
theorem writtenOutWordsDecode : Obligations.WrittenOutWordsDecode := by
  unfold Obligations.WrittenOutWordsDecode
  decide

end Sys2Proof
end

section
/-! PROOFS. HAS_NEXT's loop (R141) as a run of passes that each consume one byte, and then one answer that consumes none. -/

namespace Sys2Proof.Machine

/-- One consuming pass of the loop, on an open message. -/
inductive Pass (s : State) : State → Prop
  | esc {q : List Byte} (hm : s.msgOpen = true) (he : s.escPending = false) (hq : s.rxq = s.cfg.esc :: q) :
      Pass s { s with rxq := q, escPending := true }
  | stop {q : List Byte} (hm : s.msgOpen = true) (he : s.escPending = true) (hq : s.rxq = END :: q)
      (hlit : END ≠ s.cfg.literal) : Pass s { s with rxq := q, escPending := false, msgOpen := false }
  | start {q : List Byte} (hm : s.msgOpen = true) (he : s.escPending = true) (hq : s.rxq = START :: q)
      (hlit : START ≠ s.cfg.literal) :
      Pass s { s with rxq := q, escPending := false, msgOpen := false, afterReturn := .awaitType }
  | malformed {b : Byte} {q : List Byte} (hm : s.msgOpen = true) (he : s.escPending = true) (hq : s.rxq = b :: q)
      (hb : b ≠ START ∧ b ≠ END ∧ b ≠ s.cfg.literal) : Pass s { s with rxq := q, escPending := false }

/-- The states in which the loop answers, each with its status and its data. -/
inductive Answer (s : State) : Status → Byte → Prop
  | closed (hm : s.msgOpen = false) : Answer s .closed 0x00#8
  | empty (hm : s.msgOpen = true) (hq : s.rxq = []) : Answer s .ok 0x00#8
  | ordinary {b : Byte} {q : List Byte} (hm : s.msgOpen = true) (he : s.escPending = false) (hq : s.rxq = b :: q)
      (hb : b ≠ s.cfg.esc) : Answer s .ok 0x01#8
  | literal {q : List Byte} (hm : s.msgOpen = true) (he : s.escPending = true) (hq : s.rxq = s.cfg.literal :: q) :
      Answer s .ok 0x01#8

theorem hasNextLoop_of_answer {s : State} {st : Status} {d : Byte} (h : Answer s st d) :
    hasNextLoop s.rxq s = { s with rsp := s.rsp ++ [⟨true, st, d⟩] } := by
  cases h with
  | closed hm => exact hasNextLoop_closed _ hm
  | empty hm hq => rw [hq, hasNextLoop_nil hm, ← hq]
  | ordinary hm he hq hb => rw [hq, hasNextLoop_cons hm he hq, if_neg hb, ← hq]
  | literal hm he hq => rw [hq, hasNextLoop_cons_pair hm he hq, if_pos rfl, ← hq]

theorem hasNextLoop_of_pass {s v : State} (h : Pass s v) : hasNextLoop s.rxq s = hasNextLoop v.rxq v := by
  cases h with
  | esc hm he hq => rw [hq, hasNextLoop_cons hm he hq, if_pos rfl]
  | stop hm he hq hlit => rw [hq, hasNextLoop_cons_pair hm he hq, if_neg hlit, if_pos rfl]
  | start hm he hq hlit => rw [hq, hasNextLoop_cons_pair hm he hq, if_neg hlit, if_neg start_ne_end, if_pos rfl]
  | malformed hm he hq hb =>
    obtain ⟨hstart, hend, hlit⟩ := hb
    rw [hq, hasNextLoop_cons_pair hm he hq, if_neg hlit, if_neg hend, if_neg hstart]

theorem hasNextLoop_of_passes {s v : State} (h : Relation.ReflTransGen Pass s v) :
    hasNextLoop s.rxq s = hasNextLoop v.rxq v := by
  induction h with
  | refl => rfl
  | tail _ hpass ih => exact ih.trans (hasNextLoop_of_pass hpass)

theorem Pass.length_lt {s v : State} (h : Pass s v) : v.rxq.length < s.rxq.length := by
  cases h with
  | esc _ _ hq | stop _ _ hq _ | start _ _ hq _ | malformed _ _ hq _ => simp [hq]

/-- The loop answers or passes: its cases leave no other state. -/
theorem answer_or_pass (s : State) : (∃ st d, Answer s st d) ∨ ∃ v, Pass s v := by
  by_cases hm : s.msgOpen = true
  · obtain ⟨l, hq⟩ : ∃ l, s.rxq = l := ⟨_, rfl⟩
    cases l with
    | nil => exact .inl ⟨_, _, .empty hm hq⟩
    | cons b q =>
      by_cases he : s.escPending = true
      · by_cases hlit : b = s.cfg.literal
        · exact .inl ⟨_, _, .literal hm he (hlit ▸ hq)⟩
        · by_cases hend : b = END
          · exact .inr ⟨_, .stop hm he (hend ▸ hq) (hend ▸ hlit)⟩
          · by_cases hstart : b = START
            · exact .inr ⟨_, .start hm he (hstart ▸ hq) (hstart ▸ hlit)⟩
            · exact .inr ⟨_, .malformed hm he hq ⟨hstart, hend, hlit⟩⟩
      · have he : s.escPending = false := Bool.eq_false_iff.2 he
        by_cases hesc : b = s.cfg.esc
        · exact .inr ⟨_, .esc hm he (hesc ▸ hq)⟩
        · exact .inl ⟨_, _, .ordinary hm he hq hesc⟩
  · exact .inl ⟨_, _, .closed (Bool.eq_false_iff.2 hm)⟩

/-- The loop is passes, then an answer. -/
theorem hasNextLoop_run (s : State) :
    ∃ v st d, Relation.ReflTransGen Pass s v ∧ Answer v st d ∧
      hasNextLoop s.rxq s = { v with rsp := v.rsp ++ [⟨true, st, d⟩] } := by
  induction hn : s.rxq.length using Nat.strong_induction_on generalizing s with
  | _ n ih =>
    obtain ⟨st, d, hanswer⟩ | ⟨v, hpass⟩ := answer_or_pass s
    · exact ⟨s, st, d, .refl, hanswer, hasNextLoop_of_answer hanswer⟩
    · obtain ⟨w, st, d, hrun, hanswer, hloop⟩ := ih v.rxq.length (hn ▸ hpass.length_lt) v rfl
      exact ⟨w, st, d, .head hpass hrun, hanswer, (hasNextLoop_of_pass hpass).trans hloop⟩

/-- Passes consume bytes from the head of the queue and move the cursor's fields: the message stays open and RETURN's target as it was, or the
message closes. -/
theorem passes_frame {s v : State} (h : Relation.ReflTransGen Pass s v) :
    ∃ used q e m a, s.rxq = used ++ q ∧ (m = false ∨ m = s.msgOpen ∧ a = s.afterReturn) ∧
      v = { s with rxq := q, escPending := e, msgOpen := m, afterReturn := a } := by
  induction h with
  | refl => exact ⟨[], _, _, _, _, rfl, .inr ⟨rfl, rfl⟩, rfl⟩
  | tail _ hpass ih =>
    obtain ⟨used, _, _, _, _, hused, hopen, rfl⟩ := ih
    cases hpass with
    | @esc q _ _ hq | @malformed b q _ _ hq _ =>
      exact ⟨used ++ [_], q, _, _, _, by rw [hused, List.append_assoc]; exact congrArg (used ++ ·) hq, hopen, rfl⟩
    | @stop q _ _ hq _ | @start q _ _ hq _ =>
      exact ⟨used ++ [_], q, _, _, _, by rw [hused, List.append_assoc]; exact congrArg (used ++ ·) hq, .inl rfl, rfl⟩

theorem hasNextLoop_frame (s : State) :
    ∃ used q e m a r, s.rxq = used ++ q ∧ (m = false ∨ m = s.msgOpen ∧ a = s.afterReturn) ∧
      hasNextLoop s.rxq s = { s with rxq := q, escPending := e, msgOpen := m, afterReturn := a, rsp := r } := by
  obtain ⟨v, st, d, hrun, -, hloop⟩ := hasNextLoop_run s
  obtain ⟨used, q, e, m, a, hq, hopen, rfl⟩ := passes_frame hrun
  exact ⟨used, q, e, m, a, _, hq, hopen, hloop⟩

/-! ## What is still to be delivered (R142) -/

theorem payload_open {s : State} (hm : s.msgOpen = true) : s.payload = payloadBytes s.cfg s.escPending s.rxq := if_pos hm

theorem payload_closed {s : State} (hm : s.msgOpen = false) : s.payload = [] := if_neg (by simp [hm])

theorem payloadBytes_esc (cfg : Config) (q : List Byte) :
    payloadBytes cfg false (cfg.esc :: q) = payloadBytes cfg true q := if_pos rfl

theorem payloadBytes_ordinary {cfg : Config} {b : Byte} (hb : b ≠ cfg.esc) (q : List Byte) :
    payloadBytes cfg false (b :: q) = b :: payloadBytes cfg false q := if_neg hb

theorem payloadBytes_literal (cfg : Config) (q : List Byte) :
    payloadBytes cfg true (cfg.literal :: q) = cfg.esc :: payloadBytes cfg false q := if_pos rfl

theorem payloadBytes_closes {cfg : Config} {b : Byte} (hlit : b ≠ cfg.literal) (hb : b = START ∨ b = END)
    (q : List Byte) : payloadBytes cfg true (b :: q) = [] := by
  rw [payloadBytes, if_neg hlit, if_pos hb]

theorem payloadBytes_malformed {cfg : Config} {b : Byte} (hb : b ≠ START ∧ b ≠ END ∧ b ≠ cfg.literal)
    (q : List Byte) : payloadBytes cfg true (b :: q) = payloadBytes cfg false q := by
  obtain ⟨hstart, hend, hlit⟩ := hb
  rw [payloadBytes, if_neg hlit, if_neg (not_or.2 ⟨hstart, hend⟩)]

/-- A pass consumes control bytes only. -/
theorem Pass.payload_eq {s v : State} (h : Pass s v) : v.payload = s.payload := by
  cases h with
  | esc hm he hq => rw [payload_open hm, payload_open (by exact hm), he, hq, payloadBytes_esc]
  | stop hm he hq hlit =>
    rw [payload_open hm, payload_closed (by rfl), he, hq, payloadBytes_closes hlit (.inr rfl)]
  | start hm he hq hlit =>
    rw [payload_open hm, payload_closed (by rfl), he, hq, payloadBytes_closes hlit (.inl rfl)]
  | malformed hm he hq hb => rw [payload_open hm, payload_open (by exact hm), he, hq, payloadBytes_malformed hb]

theorem payload_of_passes {s v : State} (h : Relation.ReflTransGen Pass s v) : v.payload = s.payload := by
  induction h with
  | refl => rfl
  | tail _ hpass ih => exact hpass.payload_eq.trans ih

theorem payload_hasNext (s : State) : s.hasNext.payload = s.payload := by
  by_cases hr : s.rxState = .dispatching
  · obtain ⟨v, st, d, hrun, -, hloop⟩ := hasNextLoop_run s
    have hpayload : v.payload = s.payload := payload_of_passes hrun
    rw [hasNext_dispatching hr rfl, hloop]
    exact hpayload
  · rw [hasNext_outside hr]
    rfl

/-- A state that answers HAS_NEXT answers it again: the answer reads no response. -/
theorem Answer.of_rsp {s : State} {st : Status} {d : Byte} (h : Answer s st d) (r : List Response) :
    Answer { s with rsp := r } st d := by
  cases h with
  | closed hm => exact .closed hm
  | empty hm hq => exact .empty hm hq
  | ordinary hm he hq hb => exact .ordinary hm he hq hb
  | literal hm he hq => exact .literal hm he hq

/-- HAS_NEXT adds one response, and after it the state answers the same again and stays. -/
theorem hasNext_hasNext (s : State) :
    ∃ r, s.hasNext.rsp = s.rsp ++ [r] ∧ s.hasNext.hasNext = { s.hasNext with rsp := s.hasNext.rsp ++ [r] } := by
  by_cases hr : s.rxState = .dispatching
  · obtain ⟨v, st, d, hrun, hanswer, hloop⟩ := hasNextLoop_run s
    obtain ⟨_, _, _, _, _, -, -, rfl⟩ := passes_frame hrun
    refine ⟨⟨true, st, d⟩, ?_⟩
    rw [hasNext_dispatching hr rfl, hloop]
    refine ⟨rfl, ?_⟩
    rw [hasNext_dispatching (by exact hr) rfl]
    exact hasNextLoop_of_answer (hanswer.of_rsp _)
  · refine ⟨⟨false, .notOpen, 0x00#8⟩, ?_⟩
    rw [hasNext_outside hr]
    exact ⟨rfl, hasNext_outside (by exact hr)⟩

/-- HAS_NEXT starts no NEXT and leaves the gather to the port. -/
theorem hasNext_port (s : State) : s.hasNext.nextBusy = s.nextBusy ∧ s.hasNext.collect = s.collect := by
  by_cases hr : s.rxState = .dispatching
  · obtain ⟨_, _, _, _, _, _, -, -, hloop⟩ := hasNextLoop_frame s
    rw [hasNext_dispatching hr rfl, hloop]
    exact ⟨rfl, rfl⟩
  · rw [hasNext_outside hr]
    exact ⟨rfl, rfl⟩

end Sys2Proof.Machine
end

section
/-! PROOFS. What a command does once the port has taken it, what it leaves unchanged, and what one step can do (R27, R61, R86, R241): each said
once, for the invariants that follow. -/

namespace Sys2Proof.Machine

/-! ## A command on a free port -/

/-- What the port makes of a command it takes: SEND_BUF_DATA continues a gather, every other word interrupts one before its own effect (R86). A
wire row is no command. -/
def State.command (s : State) : Instr → State
  | .beginSend t => s.interruptGather.beginSend t
  | .sendByte b => s.interruptGather.sendByte b
  | .endSend => s.interruptGather.endSend
  | .send t => s.interruptGather.sendWhole t []
  | .sendBuf t len => s.interruptGather.sendBufHeader t len
  | .sendBufData b => s.sendBufBeat b
  | .register t h => s.interruptGather.registerType t h
  | .hasNext => s.interruptGather.hasNext
  | .next => s.interruptGather.nextStart
  | .ret => s.interruptGather.handlerReturn
  | .reserved _ => s.interruptGather.respondCommand .illegal
  | _ => s

theorem exec_command_free {s : State} {i : Instr} (hi : isCommand i = true) (hb : s.nextBusy = false) :
    exec i s = .next (s.command i) := by
  cases i with
  | beginSend t => exact onCommand_ready (fun s => s.beginSend t) hb
  | sendByte b => exact onCommand_ready (fun s => s.sendByte b) hb
  | endSend => exact onCommand_ready State.endSend hb
  | send t => exact onCommand_ready (fun s => s.sendWhole t []) hb
  | sendBuf t len => exact onCommand_ready (fun s => s.sendBufHeader t len) hb
  | sendBufData b => exact onDataBeat_ready (fun s => s.sendBufBeat b) hb
  | register t h => exact onCommand_ready (fun s => s.registerType t h) hb
  | hasNext => exact onCommand_ready State.hasNext hb
  | next => exact onCommand_ready State.nextStart hb
  | ret => exact onCommand_ready State.handlerReturn hb
  | reserved _ => exact onCommand_ready (fun s => s.respondCommand .illegal) hb
  | _ => cases hi

theorem exec_command_busy {s : State} {i : Instr} (hi : isCommand i = true) (hb : s.nextBusy = true) :
    exec i s = .next s := by
  by_cases hdata : ∃ b, i = .sendBufData b
  · obtain ⟨b, rfl⟩ := hdata
    exact onDataBeat_busy (fun s => s.sendBufBeat b) hb
  · obtain ⟨effect, hexec⟩ := exec_eq_onCommand hi (not_exists.1 hdata)
    rw [hexec, onCommand_busy effect hb]

/-- A command that answers a next state waited, or the port took it. -/
theorem exec_command_eq_next {s u : State} {i : Instr} (hi : isCommand i = true) (h : exec i s = .next u) :
    s.nextBusy = true ∧ u = s ∨ s.nextBusy = false ∧ u = s.command i := by
  cases hb : s.nextBusy with
  | true => exact .inl ⟨rfl, (Host.Outcome.next.inj ((exec_command_busy hi hb).symm.trans h)).symm⟩
  | false => exact .inr ⟨rfl, (Host.Outcome.next.inj ((exec_command_free hi hb).symm.trans h)).symm⟩

theorem isCommand_of_isEncoderCommand {i : Instr} (hi : isEncoderCommand i = true) : isCommand i = true := by
  cases i with
  | beginSend _ | sendByte _ | endSend | send _ | sendBuf _ _ | sendBufData _ => rfl
  | _ => cases hi

theorem isCommand_decodeCommand (w : CmdWord) : isCommand (decodeCommand w) = true := by
  simp only [decodeCommand]
  split_ifs <;> rfl

/-! ## What each operation of a command leaves unchanged -/

/-- The bounds of a gather: a beat or more to come, and no more than 65535 in all (R86). -/
def GatherBounds (c : Option Collect) : Prop :=
  ∀ g, c = some g → 1 ≤ g.remaining ∧ g.bytes.length + g.remaining ≤ 65535

theorem gatherBounds_none : GatherBounds none := fun _ h => nomatch h

theorem gatherBounds_some {g : Collect} :
    GatherBounds (some g) ↔ 1 ≤ g.remaining ∧ g.bytes.length + g.remaining ≤ 65535 :=
  ⟨fun h => h g rfl, fun h _ hg => Option.some.inj hg ▸ h⟩

/-- `u` differs from `s` at most in the fields that the encoder's commands write, and a gather in bounds stays in bounds. -/
def SendFrame (s u : State) : Prop :=
  ∃ o l r c, (GatherBounds s.collect → GatherBounds c) ∧
    u = { s with txOpen := o, txlog := l, rsp := r, collect := c }

theorem SendFrame.trans {s v u : State} (hv : SendFrame s v) (hu : SendFrame v u) : SendFrame s u := by
  obtain ⟨_, _, _, _, hbounds, rfl⟩ := hv
  obtain ⟨_, _, _, _, hbounds', rfl⟩ := hu
  exact ⟨_, _, _, _, hbounds' ∘ hbounds, rfl⟩

theorem sendFrame_dropGather (s : State) (r : List Response) : SendFrame s { s with collect := none, rsp := r } :=
  ⟨_, _, _, _, fun _ => gatherBounds_none, rfl⟩

theorem interruptGather_fields (s : State) : ∃ r, s.interruptGather = { s with collect := none, rsp := r } :=
  ⟨_, interruptGather_eq s⟩

theorem sendFrame_interruptGather (s : State) : SendFrame s s.interruptGather := by
  obtain ⟨r, h⟩ := interruptGather_fields s
  exact h ▸ sendFrame_dropGather s r

theorem sendFrame_beginSend (s : State) (t : Byte) : SendFrame s (s.beginSend t) := by
  cases h : s.txOpen with
  | false => exact ⟨_, _, _, _, id, beginSend_of_not_txOpen h t⟩
  | true => exact ⟨_, _, _, _, id, beginSend_of_txOpen h t⟩

theorem sendFrame_sendByte (s : State) (b : Byte) : SendFrame s (s.sendByte b) := by
  cases h : s.txOpen with
  | false => exact ⟨_, _, _, _, id, sendByte_of_not_txOpen h b⟩
  | true => exact ⟨_, _, _, _, id, sendByte_of_txOpen h b⟩

theorem sendFrame_endSend (s : State) : SendFrame s s.endSend := by
  cases h : s.txOpen with
  | false => exact ⟨_, _, _, _, id, endSend_of_not_txOpen h⟩
  | true => exact ⟨_, _, _, _, id, endSend_of_txOpen h⟩

theorem sendFrame_sendWhole (s : State) (t : Byte) (bs : List Byte) : SendFrame s (s.sendWhole t bs) := by
  cases h : s.txOpen with
  | false => exact ⟨_, _, _, _, id, sendWhole_of_not_txOpen h t bs⟩
  | true => exact ⟨_, _, _, _, id, sendWhole_of_txOpen h t bs⟩

/-- A SEND_BUF header sends an empty frame or begins a gather. -/
theorem sendBufHeader_eq (s : State) (t : Byte) (len : BitVec 16) :
    len = 0#16 ∧ s.sendBufHeader t len = s.sendWhole t [] ∨
      len ≠ 0#16 ∧ s.sendBufHeader t len = { s with collect := some ⟨t, len.toNat, []⟩ } := by
  by_cases h : len = 0#16
  · exact .inl ⟨h, if_pos h⟩
  · exact .inr ⟨h, sendBufHeader_of_ne_zero s t h⟩

/-- A data beat is stray, or the last of its gather, or one of the others. -/
theorem sendBufBeat_eq (s : State) (b : Byte) :
    s.collect = none ∧ s.sendBufBeat b = s.respondCommand .illegal ∨
      ∃ c, s.collect = some c ∧
        (c.remaining ≤ 1 ∧ s.sendBufBeat b = ({ s with collect := none } : State).sendWhole c.type (c.bytes ++ [b]) ∨
          2 ≤ c.remaining ∧
            s.sendBufBeat b = { s with collect := some ⟨c.type, c.remaining - 1, c.bytes ++ [b]⟩ }) := by
  cases h : s.collect with
  | none => exact .inl ⟨rfl, sendBufBeat_stray h b⟩
  | some c =>
    refine .inr ⟨c, rfl, ?_⟩
    simp only [State.sendBufBeat, h]
    split
    next hlast => exact .inl ⟨by omega, rfl⟩
    next hmore => exact .inr ⟨by omega, rfl⟩

theorem sendFrame_sendBufHeader (s : State) (t : Byte) (len : BitVec 16) : SendFrame s (s.sendBufHeader t len) := by
  obtain ⟨-, h⟩ | ⟨hlen, h⟩ := sendBufHeader_eq s t len
  · exact h ▸ sendFrame_sendWhole s t []
  · have hpos : len.toNat ≠ 0 := fun hzero => hlen (BitVec.eq_of_toNat_eq hzero)
    have hbounds : GatherBounds (some ⟨t, len.toNat, []⟩) :=
      gatherBounds_some.2 ⟨Nat.one_le_iff_ne_zero.2 hpos, by simpa using Nat.le_pred_of_lt len.isLt⟩
    exact ⟨_, _, _, _, fun _ => hbounds, h⟩

theorem sendFrame_sendBufBeat (s : State) (b : Byte) : SendFrame s (s.sendBufBeat b) := by
  obtain ⟨-, h⟩ | ⟨g, hg, ⟨-, h⟩ | ⟨hmore, h⟩⟩ := sendBufBeat_eq s b
  · exact ⟨_, _, _, _, id, h⟩
  · exact h ▸ (sendFrame_dropGather s s.rsp).trans (sendFrame_sendWhole _ g.type (g.bytes ++ [b]))
  · refine ⟨_, _, _, _, fun hs => gatherBounds_some.2 ?_, h⟩
    obtain ⟨-, hmax⟩ := hs g hg
    simp only [List.length_append, List.length_singleton]
    omega

theorem sendFrame_command (s : State) {i : Instr} (hi : isEncoderCommand i = true) : SendFrame s (s.command i) := by
  cases i with
  | beginSend t => exact (sendFrame_interruptGather s).trans (sendFrame_beginSend _ t)
  | sendByte b => exact (sendFrame_interruptGather s).trans (sendFrame_sendByte _ b)
  | endSend => exact (sendFrame_interruptGather s).trans (sendFrame_endSend _)
  | send t => exact (sendFrame_interruptGather s).trans (sendFrame_sendWhole _ t [])
  | sendBuf t len => exact (sendFrame_interruptGather s).trans (sendFrame_sendBufHeader _ t len)
  | sendBufData b => exact sendFrame_sendBufBeat s b
  | _ => cases hi

/-- REGISTER out of range only answers; in range it also sets its slot (R210, R211). -/
theorem registerType_eq (s : State) (t : Byte) (h : HandlerId) :
    s.registerType t h = { s with rsp := s.rsp ++ [⟨false, .range, 0x00#8⟩] } ∨
      t.toNat < s.cfg.nTypes ∧
        s.registerType t h =
          { s with table := s.table.set t.toNat (some h), rsp := s.rsp ++ [⟨true, .ok, 0x00#8⟩] } := by
  by_cases ht : t.toNat < s.cfg.nTypes
  · exact .inr ⟨ht, registerType_inRange h ht⟩
  · exact .inl (registerType_outOfRange h (Nat.not_lt.1 ht))

/-- HAS_NEXT outside a dispatch only answers; inside one it runs its loop (R141, R143). -/
theorem hasNext_eq (s : State) :
    s.rxState ≠ .dispatching ∧ s.hasNext = { s with rsp := s.rsp ++ [⟨false, .notOpen, 0x00#8⟩] } ∨
      s.rxState = .dispatching ∧ s.hasNext = hasNextLoop s.rxq s := by
  by_cases hr : s.rxState = .dispatching
  · exact .inr ⟨hr, hasNext_dispatching hr rfl⟩
  · exact .inl ⟨hr, hasNext_outside hr⟩

/-- NEXT only answers where no message is open, and is in progress otherwise (R146 to R148). -/
theorem nextStart_eq (s : State) :
    (∃ st, (st = .notOpen ∨ st = .closed) ∧ s.nextStart = { s with rsp := s.rsp ++ [⟨okCursor st, st, SENTINEL⟩] }) ∨
      s.rxState = .dispatching ∧ s.msgOpen = true ∧ s.nextStart = { s with nextBusy := true, retry := 0 } := by
  by_cases hr : s.rxState = .dispatching
  · by_cases hm : s.msgOpen = true
    · exact .inr ⟨hr, hm, nextStart_open hr hm⟩
    · exact .inl ⟨.closed, .inr rfl, nextStart_closed hr (Bool.eq_false_iff.2 hm)⟩
  · exact .inl ⟨.notOpen, .inl rfl, nextStart_outside hr⟩

/-- RETURN only answers outside a dispatch, and leaves one (R160, R161). -/
theorem handlerReturn_eq (s : State) :
    s.rxState ≠ .dispatching ∧ s.handlerReturn = { s with rsp := s.rsp ++ [⟨false, .notOpen, 0x00#8⟩] } ∨
      s.rxState = .dispatching ∧ s.handlerReturn = s.returnFromDispatch.respondCommand .ok := by
  by_cases hr : s.rxState = .dispatching
  · exact .inr ⟨hr, if_neg (by simp [hr])⟩
  · exact .inl ⟨hr, handlerReturn_outside hr⟩

/-- What a command that the port takes can do, by the fields it writes. -/
inductive CommandEffect (s u : State) : Instr → Prop
  | send {i : Instr} (hi : isEncoderCommand i = true) (hu : SendFrame s u) : CommandEffect s u i
  | registers {t : Byte} {h : HandlerId} {r : List Response} {c : Option Collect} (ht : t.toNat < s.cfg.nTypes)
      (hc : GatherBounds s.collect → GatherBounds c)
      (hu : u = { s with table := s.table.set t.toNat (some h), rsp := r, collect := c }) :
      CommandEffect s u (.register t h)
  | drains {used q : List Byte} {e m : Bool} {a : Resume} {r : List Response} {c : Option Collect}
      (hr : s.rxState = .dispatching) (hq : s.rxq = used ++ q)
      (hm : m = false ∨ m = s.msgOpen ∧ a = s.afterReturn) (hc : GatherBounds s.collect → GatherBounds c)
      (hu : u = { s with escPending := e, msgOpen := m, afterReturn := a, rxq := q, rsp := r, collect := c }) :
      CommandEffect s u .hasNext
  | starts {r : List Response} {c : Option Collect} (hr : s.rxState = .dispatching) (hm : s.msgOpen = true)
      (hc : GatherBounds s.collect → GatherBounds c)
      (hu : u = { s with nextBusy := true, retry := 0, rsp := r, collect := c }) : CommandEffect s u .next
  | returns {r : List Response} {c : Option Collect} (hr : s.rxState = .dispatching)
      (hc : GatherBounds s.collect → GatherBounds c)
      (hu : u = { s with
        rxState := s.afterReturn.rxState, msgOpen := false, curHandler := none, curType := none
        afterReturn := .idle, rsp := r, collect := c }) :
      CommandEffect s u .ret
  | answers {i : Instr} {r : List Response} {c : Option Collect} (hi : isEncoderCommand i = false)
      (hc : GatherBounds s.collect → GatherBounds c) (hu : u = { s with rsp := r, collect := c }) : CommandEffect s u i

theorem registerType_effect (s : State) (t : Byte) (h : HandlerId) :
    CommandEffect s (s.registerType t h) (.register t h) := by
  obtain hu | ⟨ht, hu⟩ := registerType_eq s t h
  · exact .answers rfl id hu
  · exact .registers ht id hu

theorem hasNext_effect (s : State) : CommandEffect s s.hasNext .hasNext := by
  obtain ⟨-, hu⟩ | ⟨hr, hu⟩ := hasNext_eq s
  · exact .answers rfl id hu
  · obtain ⟨used, q, e, m, a, r, hq, hm, hloop⟩ := hasNextLoop_frame s
    exact .drains hr hq hm id (hu.trans hloop)

theorem nextStart_effect (s : State) : CommandEffect s s.nextStart .next := by
  obtain ⟨st, -, hu⟩ | ⟨hr, hm, hu⟩ := nextStart_eq s
  · exact .answers rfl id hu
  · exact .starts hr hm id hu

theorem handlerReturn_effect (s : State) : CommandEffect s s.handlerReturn .ret := by
  obtain ⟨-, hu⟩ | ⟨hr, hu⟩ := handlerReturn_eq s
  · exact .answers rfl id hu
  · exact .returns hr id hu

/-- A gather that is interrupted first writes only what every command may write. -/
theorem CommandEffect.of_interruptGather {s u : State} {i : Instr} (h : CommandEffect s.interruptGather u i) :
    CommandEffect s u i := by
  obtain ⟨r, hv⟩ := interruptGather_fields s
  rw [hv] at h
  have drop {c : Option Collect} (hc : GatherBounds none → GatherBounds c) : GatherBounds s.collect → GatherBounds c :=
    fun _ => hc gatherBounds_none
  cases h with
  | send hi hu => exact .send hi ((sendFrame_dropGather s r).trans hu)
  | registers ht hc hu => exact .registers ht (drop hc) hu
  | drains hr hq hm hc hu => exact .drains hr hq hm (drop hc) hu
  | starts hr hm hc hu => exact .starts hr hm (drop hc) hu
  | returns hr hc hu => exact .returns hr (drop hc) hu
  | answers hi hc hu => exact .answers hi (drop hc) hu

theorem command_effect (s : State) {i : Instr} (hi : isCommand i = true) : CommandEffect s (s.command i) i := by
  cases i with
  | beginSend _ | sendByte _ | endSend | send _ | sendBuf _ _ | sendBufData _ => exact .send rfl (sendFrame_command s rfl)
  | register t h => exact (registerType_effect s.interruptGather t h).of_interruptGather
  | hasNext => exact (hasNext_effect s.interruptGather).of_interruptGather
  | next => exact (nextStart_effect s.interruptGather).of_interruptGather
  | ret => exact (handlerReturn_effect s.interruptGather).of_interruptGather
  | reserved op =>
    have answer : CommandEffect s.interruptGather (s.interruptGather.respondCommand .illegal) (.reserved op) :=
      .answers rfl id (respondCommand_illegal s.interruptGather)
    exact answer.of_interruptGather
  | _ => cases hi

end Sys2Proof.Machine
end

section
/-! PROOFS. What RxStep (R102) can do outside a dispatch, and what NextPoll (R149) can do, each said once: the fields they write, the flag they
leave (R22), when a Type is dispatched (R121), and what becomes of the payload. -/

namespace Sys2Proof.Machine

/-! ## RxStep -/

/-- What RxStep can make of a byte outside a dispatch: it moves the engine's two fields, or it dispatches the Type that a Type token carries. -/
inductive RxOutcome (s : State) (b : Byte) (u : State) : Prop
  | moves {r : RxState} {e : Bool} (hr : r ≠ .dispatching) (he : e = true ↔ s.escPending = false ∧ b = s.cfg.esc)
      (hu : u = { s with rxState := r, escPending := e })
  | dispatches {t : Byte} {h : HandlerId} (hr : s.rxState = .awaitType)
      (ht : decode s.cfg (.byte .awaitType s.escPending b) = .rxAwaitType t ∨
        decode s.cfg (.byte .awaitType s.escPending b) = .rxAwaitEscLiteral ∧ t = s.cfg.esc)
      (hl : s.lookup t = some h) (hb : ¬(s.escPending = false ∧ b = s.cfg.esc))
      (hu : u = ({ s with escPending := false } : State).dispatchTo h t)

/-- After the byte that ends a token, the flag is down (R22). -/
theorem escDown_iff {s : State} {b : Byte} (h : ¬(s.escPending = false ∧ b = s.cfg.esc)) :
    false = true ↔ s.escPending = false ∧ b = s.cfg.esc :=
  ⟨fun hf => absurd hf Bool.false_ne_true, fun hesc => absurd hesc h⟩

theorem not_beginsPair_of_pair {s : State} {b : Byte} (he : s.escPending = true) :
    ¬(s.escPending = false ∧ b = s.cfg.esc) := fun h => Bool.false_ne_true (h.1.symm.trans he)

theorem not_beginsPair_of_ne {s : State} {b : Byte} (hb : b ≠ s.cfg.esc) :
    ¬(s.escPending = false ∧ b = s.cfg.esc) := fun h => hb h.2

/-- A Type token dispatches on a hit and returns to IDLE on a miss (R121, R122). -/
theorem RxOutcome.of_typeDecoded {s : State} {b t : Byte} (hr : s.rxState = .awaitType)
    (ht : decode s.cfg (.byte .awaitType s.escPending b) = .rxAwaitType t ∨
      decode s.cfg (.byte .awaitType s.escPending b) = .rxAwaitEscLiteral ∧ t = s.cfg.esc)
    (hb : ¬(s.escPending = false ∧ b = s.cfg.esc)) :
    RxOutcome s b (({ s with escPending := false } : State).typeDecoded t) := by
  obtain ⟨h, hl, hu⟩ | ⟨-, hu⟩ := typeDecoded_eq { s with escPending := false } t
  · exact .dispatches hr ht hl hb hu
  · exact .moves (r := .idle) nofun (escDown_iff hb) hu

theorem rxStepSpec_outcome {s : State} (b : Byte) (hout : s.rxState ≠ .dispatching) : RxOutcome s b (rxStepSpec s b) := by
  obtain ⟨r, hr⟩ : ∃ r, s.rxState = r := ⟨_, rfl⟩
  obtain ⟨e, he⟩ : ∃ e, s.escPending = e := ⟨_, rfl⟩
  have hdown (h : s.escPending = false) : s = { s with escPending := false } := by rw [← h]
  cases r with
  | dispatching => exact absurd hr hout
  | idle =>
    cases e with
    | false =>
      rw [rxStepSpec_idle hr he]
      split
      next hb => exact .moves hout ⟨fun _ => ⟨he, hb⟩, fun _ => rfl⟩ rfl
      next hb => exact .moves hout (escDown_iff (not_beginsPair_of_ne hb)) (hdown he)
    | true =>
      rw [rxStepSpec_idle_pair hr he]
      have flag := escDown_iff (not_beginsPair_of_pair (b := b) he)
      split
      · exact .moves (r := .awaitType) nofun flag rfl
      · exact .moves hout flag rfl
  | awaitType =>
    cases e with
    | false =>
      rw [rxStepSpec_awaitType hr he]
      split
      next hb => exact .moves hout ⟨fun _ => ⟨he, hb⟩, fun _ => rfl⟩ rfl
      next hb =>
        have htoken : decode s.cfg (.byte .awaitType s.escPending b) = .rxAwaitType b := by
          rw [he]
          exact if_neg hb
        have houtcome := RxOutcome.of_typeDecoded hr (.inl htoken) (not_beginsPair_of_ne hb)
        rwa [← hdown he] at houtcome
    | true =>
      rw [rxStepSpec_awaitType_pair hr he]
      have hpair := not_beginsPair_of_pair (b := b) he
      split
      next hlit =>
        have htoken : decode s.cfg (.byte .awaitType s.escPending b) = .rxAwaitEscLiteral := by
          rw [he]
          exact if_pos hlit
        exact .of_typeDecoded hr (.inr ⟨htoken, rfl⟩) hpair
      next =>
        split
        · exact .moves hout (escDown_iff hpair) rfl
        · exact .moves (r := .idle) nofun (escDown_iff hpair) rfl

theorem RxOutcome.escPending_iff {s u : State} {b : Byte} (h : RxOutcome s b u) :
    u.escPending = true ↔ s.escPending = false ∧ b = s.cfg.esc := by
  cases h with
  | moves _ he hu => exact hu ▸ he
  | dispatches _ _ _ hb hu => exact hu ▸ escDown_iff hb

/-- The engine writes no field of the send half, of the port, of the table or of a NEXT, and reads no further byte. -/
theorem RxOutcome.frame {s u : State} {b : Byte} (h : RxOutcome s b u) :
    ∃ r e m h c a d, u =
      { s with
        rxState := r, escPending := e, msgOpen := m, curHandler := h, curType := c, afterReturn := a, disp := d } := by
  cases h with
  | moves _ _ hu | dispatches _ _ _ _ hu => exact ⟨_, _, _, _, _, _, _, hu⟩

/-! ## NextPoll -/

/-- What NextPoll can do. Its four answers and its two ways to poll on, with the payload left to read from the queue. -/
inductive PollOutcome (s u : State) : Prop
  | pollsOn {b : Byte} {q : List Byte} {e : Bool} (hq : s.rxq = b :: q)
      (he : e = true ↔ s.escPending = false ∧ b = s.cfg.esc)
      (hp : payloadBytes s.cfg s.escPending s.rxq = payloadBytes s.cfg e q)
      (hu : u = { s with rxq := q, retry := 0, escPending := e })
  | delivers {b v : Byte} {q : List Byte} (hq : s.rxq = b :: q) (hb : ¬(s.escPending = false ∧ b = s.cfg.esc))
      (hp : payloadBytes s.cfg s.escPending s.rxq = v :: payloadBytes s.cfg false q)
      (hu : u = finishSpec { s with rxq := q, escPending := false } .ok v)
  | closes {b : Byte} {q : List Byte} {a : Resume} (hq : s.rxq = b :: q) (hb : ¬(s.escPending = false ∧ b = s.cfg.esc))
      (hp : payloadBytes s.cfg s.escPending s.rxq = [])
      (hu : u =
        finishSpec { s with rxq := q, escPending := false, msgOpen := false, afterReturn := a } .closed SENTINEL)
  | counts (hq : s.rxq = []) (hr : s.retry + 1 ≠ s.cfg.retryBudget) (hu : u = { s with retry := s.retry + 1 })
  | timesOut (hq : s.rxq = []) (hu : u = finishSpec s .timeout SENTINEL)

theorem nextPollSpec_outcome (s : State) : PollOutcome s (nextPollSpec s) := by
  obtain ⟨l, hq⟩ : ∃ l, s.rxq = l := ⟨_, rfl⟩
  obtain ⟨e, he⟩ : ∃ e, s.escPending = e := ⟨_, rfl⟩
  cases l with
  | nil =>
    rw [nextPollSpec_empty hq]
    split
    next => exact .timesOut hq rfl
    next hleft => exact .counts hq hleft rfl
  | cons b q =>
    cases e with
    | false =>
      rw [nextPollSpec_byte he hq]
      split
      next hb => exact .pollsOn hq ⟨fun _ => ⟨he, hb⟩, fun _ => rfl⟩ (by rw [he, hq, hb, payloadBytes_esc]) rfl
      next hb =>
        exact .delivers hq (not_beginsPair_of_ne hb) (by rw [he, hq, payloadBytes_ordinary hb]) (by rw [← he])
    | true =>
      rw [nextPollSpec_pair he hq]
      have hpair := not_beginsPair_of_pair (b := b) he
      split
      next hlit => exact .delivers hq hpair (by rw [he, hq, hlit, payloadBytes_literal]) rfl
      next hlit =>
        split
        next hstart => exact .closes hq hpair (by rw [he, hq, payloadBytes_closes hlit (.inl hstart)]) rfl
        next hstart =>
          split
          next hend => exact .closes hq hpair (by rw [he, hq, payloadBytes_closes hlit (.inr hend)]) rfl
          next hend =>
            exact .pollsOn hq (escDown_iff hpair) (by rw [he, hq, payloadBytes_malformed ⟨hstart, hend, hlit⟩]) rfl

/-- What a poll of an open message makes of the payload (R149 to R157). -/
theorem PollOutcome.payload_cases {s u : State} (h : PollOutcome s u) (hb : s.nextBusy = true) (hm : s.msgOpen = true) :
    (u.rsp = s.rsp ∧ u.nextBusy = true ∧ u.msgOpen = true ∧ u.payload = s.payload) ∨
      (∃ v, u.rsp = s.rsp ++ [⟨true, .ok, v⟩] ∧ u.nextBusy = false ∧ s.payload = v :: u.payload) ∨
      (u.rsp = s.rsp ++ [⟨true, .closed, SENTINEL⟩] ∧ u.nextBusy = false ∧ u.msgOpen = false ∧ s.payload = []) ∨
      (u.rsp = s.rsp ++ [⟨true, .timeout, SENTINEL⟩] ∧ u.nextBusy = false ∧ u.msgOpen = true ∧
        u.payload = s.payload) := by
  rw [payload_open hm]
  cases h with
  | pollsOn _ _ hp hu =>
    rw [hu, hp]
    exact .inl ⟨rfl, hb, hm, payload_open hm⟩
  | @delivers b v q _ _ hp hu =>
    rw [hu, hp]
    have hrest := payload_open (s := finishSpec { s with rxq := q, escPending := false } .ok v) hm
    exact .inr (.inl ⟨_, rfl, rfl, congrArg _ hrest.symm⟩)
  | closes _ _ hp hu =>
    rw [hu]
    exact .inr (.inr (.inl ⟨rfl, rfl, rfl, hp⟩))
  | counts _ _ hu =>
    rw [hu]
    exact .inl ⟨rfl, hb, hm, payload_open hm⟩
  | timesOut _ hu =>
    rw [hu]
    exact .inr (.inr (.inr ⟨rfl, rfl, hm, payload_open hm⟩))

/-- A poll writes the cursor's fields, the count and the responses, and takes the head of the queue. -/
theorem PollOutcome.frame {s u : State} (h : PollOutcome s u) :
    ∃ e m a n k q r, (q = s.rxq ∨ ∃ b, s.rxq = b :: q) ∧ u =
      { s with escPending := e, msgOpen := m, afterReturn := a, nextBusy := n, retry := k, rxq := q, rsp := r } := by
  cases h with
  | pollsOn hq _ _ hu | delivers hq _ _ hu | closes hq _ _ hu => exact ⟨_, _, _, _, _, _, _, .inr ⟨_, hq⟩, hu⟩
  | counts _ _ hu | timesOut _ hu => exact ⟨_, _, _, _, _, _, _, .inl rfl, hu⟩

end Sys2Proof.Machine
end

section
/-! PROOFS. What one step can do (R60, R61, R241): one case for each agent's turn, with the single functions RxStep (R102), NextPoll (R149) and the
port's own rule in place of the thirty rows; and the obligations that say when a turn has a step. -/

namespace Sys2Proof.Machine

/-! ## Turns without a step (log 2) -/

/-- A move whose agent has no enabled step (R100, R101, R149, R27). -/
def Disabled (s : State) (m : Move) : Prop :=
  m = .engine ∧ (s.rxState = .dispatching ∨ s.rxq = []) ∨ m = .poll ∧ s.nextBusy = false ∨
    m = .host ∧ (s.nextBusy = true ∨ s.cmdq = [])

theorem fetch_engine_eq_none {s : State} (h : s.rxState = .dispatching ∨ s.rxq = []) : s.fetch .engine = none := by
  rw [← Option.not_isSome_iff_eq_none, fetch_engine_isSome_iff]
  rintro ⟨hr, hq⟩
  obtain hd | hnil := h
  · simp [hd] at hr
  · exact hq hnil

theorem fetch_poll_eq_none {s : State} (hb : s.nextBusy = false) : s.fetch .poll = none := by
  rw [← Option.not_isSome_iff_eq_none, fetch_poll_isSome_iff, hb]
  exact Bool.false_ne_true

theorem fetch_host_eq_none {s : State} (h : s.nextBusy = true ∨ s.cmdq = []) : s.fetch .host = none := by
  obtain hb | hnil := h
  · simp [State.fetch, State.fetchHost, hb]
  · simp [State.fetch, State.fetchHost, hnil]

theorem fetch_host {s : State} {w : CmdWord} {ws : List CmdWord} (hb : s.nextBusy = false) (hc : s.cmdq = w :: ws) :
    s.fetch .host = some (.word w, { s with cmdq := ws }) := by
  simp [State.fetch, State.fetchHost, State.takeWord, hb, hc]

theorem step_of_disabled {s : State} {m : Move} (ms : List Move) (hw : s.cfg.wf = true) (h : Disabled s m) :
    step { s with sched := m :: ms } = .next { s with sched := ms } := by
  obtain ⟨rfl, h⟩ | ⟨rfl, h⟩ | ⟨rfl, h⟩ := h
  · exact step_of_no_fetch hw (fetch_engine_eq_none (s := { s with sched := ms }) h)
  · exact step_of_no_fetch hw (fetch_poll_eq_none (s := { s with sched := ms }) h)
  · exact step_of_no_fetch hw (fetch_host_eq_none (s := { s with sched := ms }) h)

/-! ## Turns with a step -/

/-- The host's turn on a free port takes its next word and runs the command it stands for. -/
theorem step_host_eq_command {s : State} {w : CmdWord} {ws : List CmdWord} (ms : List Move) (hw : s.cfg.wf = true)
    (hb : s.nextBusy = false) (hc : s.cmdq = w :: ws) :
    step { s with sched := .host :: ms } =
      .next (({ s with cmdq := ws, sched := ms } : State).command (decodeCommand w)) := by
  rw [step_of_fetch hw (fetch_host (s := { s with sched := ms }) hb hc)]
  exact exec_command_free (isCommand_decodeCommand w) hb

/-- What one step can do. -/
inductive Turn (s u : State) : Prop
  | waits (hs : s.sched = []) (hu : u = s)
  | arrives {bs : List Byte} {ms : List Move} (hs : s.sched = .arrive bs :: ms)
      (hu : u = { s with rxq := s.rxq ++ bs, sched := ms })
  | resets {ms : List Move} (hs : s.sched = .reset :: ms) (hu : u = ({ s with sched := ms } : State).resetBlock)
  | unused {m : Move} {ms : List Move} (hs : s.sched = m :: ms) (hm : Disabled s m) (hu : u = { s with sched := ms })
  | engine {b : Byte} {q : List Byte} {ms : List Move} (hs : s.sched = .engine :: ms) (hr : s.rxState ≠ .dispatching)
      (hq : s.rxq = b :: q) (hout : RxOutcome { s with rxq := q, sched := ms } b u)
  | poll {ms : List Move} (hs : s.sched = .poll :: ms) (hb : s.nextBusy = true)
      (hout : PollOutcome { s with sched := ms } u)
  | host {w : CmdWord} {ws : List CmdWord} {ms : List Move} {i : Instr} (hs : s.sched = .host :: ms)
      (hb : s.nextBusy = false) (hc : s.cmdq = w :: ws) (hi : decodeCommand w = i)
      (heffect : CommandEffect { s with cmdq := ws, sched := ms } u i)
      (hu : u = ({ s with cmdq := ws, sched := ms } : State).command i)

/-- In an admitted configuration a step answers one next state, and it is one of these. -/
theorem step_turn {s : State} (hw : s.cfg.wf = true) : ∃ u, step s = .next u ∧ Turn s u := by
  obtain ⟨sched, hs⟩ : ∃ l, s.sched = l := ⟨_, rfl⟩
  cases sched with
  | nil => exact ⟨s, by simp [step, hw, hs], .waits hs rfl⟩
  | cons m ms =>
    have hsched : s = { s with sched := m :: ms } := by rw [← hs]
    rw [hsched]
    have idle (h : Disabled s m) : ∃ u, step { s with sched := m :: ms } = .next u ∧ Turn { s with sched := m :: ms } u :=
      ⟨_, step_of_disabled ms hw h, .unused rfl h rfl⟩
    cases m with
    | arrive bs => exact ⟨_, step_of_no_fetch hw rfl, .arrives rfl rfl⟩
    | reset => exact ⟨_, step_of_no_fetch hw rfl, .resets rfl rfl⟩
    | engine =>
      by_cases hd : s.rxState = .dispatching ∨ s.rxq = []
      · exact idle (.inl ⟨rfl, hd⟩)
      · obtain ⟨hr, hne⟩ := not_or.1 hd
        obtain ⟨b, q, hq⟩ := List.exists_cons_of_ne_nil hne
        exact ⟨_, step_engine_eq_rxStepSpec ms hw hr hq, .engine rfl hr hq (rxStepSpec_outcome b hr)⟩
    | poll =>
      by_cases hb : s.nextBusy = true
      · exact ⟨_, step_poll_eq_nextPollSpec ms hw hb, .poll rfl hb (nextPollSpec_outcome _)⟩
      · exact idle (.inr (.inl ⟨rfl, Bool.eq_false_iff.2 hb⟩))
    | host =>
      by_cases hd : s.nextBusy = true ∨ s.cmdq = []
      · exact idle (.inr (.inr ⟨rfl, hd⟩))
      · obtain ⟨hbusy, hne⟩ := not_or.1 hd
        obtain ⟨w, ws, hc⟩ := List.exists_cons_of_ne_nil hne
        have hb : s.nextBusy = false := Bool.eq_false_iff.2 hbusy
        exact ⟨_, step_host_eq_command ms hw hb hc, .host rfl hb hc rfl (command_effect _ (isCommand_decodeCommand w)) rfl⟩

/-- A step that answers a next state has an admitted configuration and is one of the turns. -/
theorem turn_of_step {s u : State} (h : step s = .next u) : s.cfg.wf = true ∧ Turn s u := by
  obtain ⟨hw, -⟩ := step_cases h
  obtain ⟨v, hv, hturn⟩ := step_turn hw
  obtain rfl := Host.Outcome.next.inj (h.symm.trans hv)
  exact ⟨hw, hturn⟩

end Sys2Proof.Machine
end

section
/-! PROOFS. The obligations on which turns have a step, and on what a step runs. -/

namespace Sys2Proof.Machine

/-- Settles O45: each agent's disabled turn. -/
theorem disabledMovesOnlyUseTheirTurn : Obligations.DisabledMovesOnlyUseTheirTurn := by
  unfold Obligations.DisabledMovesOnlyUseTheirTurn
  intro s ms hw
  exact ⟨fun h => step_of_disabled ms hw (.inl ⟨rfl, h⟩), fun h => step_of_disabled ms hw (.inr (.inl ⟨rfl, h⟩)),
    fun h => step_of_disabled ms hw (.inr (.inr ⟨rfl, h⟩))⟩

/-- Settles O46: the port's rule while a NEXT is in progress, and the host's disabled turn. -/
theorem busyPortTakesNoCommand : Obligations.BusyPortTakesNoCommand := by
  unfold Obligations.BusyPortTakesNoCommand
  intro s hb
  exact ⟨fun i hi => exec_command_busy hi hb, fun ms hw => step_of_disabled ms hw (.inr (.inr ⟨rfl, .inl hb⟩))⟩

/-- Settles O48: each source's fetch, handed to the decoder. -/
theorem stepRunsTheDecodedInstruction : Obligations.StepRunsTheDecodedInstruction := by
  unfold Obligations.StepRunsTheDecodedInstruction
  intro s ms i hw
  refine ⟨fun w ws hb hc hi => ?host, fun b q hr hq hi => ?idle, fun b q hr hq hi => ?awaitType,
    fun b q hb hq hi => ?pollByte, fun hb hq hi => ?pollEmpty⟩
  case host => rw [step_of_fetch hw (fetch_host (s := { s with sched := ms }) hb hc), ← hi]
  case idle => rw [step_of_fetch hw (fetch_engine_idle (s := { s with sched := ms }) hr hq), ← hi]
  case awaitType => rw [step_of_fetch hw (fetch_engine_awaitType (s := { s with sched := ms }) hr hq), ← hi]
  case pollByte => rw [step_of_fetch hw (fetch_poll_byte (s := { s with sched := ms }) hb hq), ← hi]
  case pollEmpty => rw [step_of_fetch hw (fetch_poll_empty (s := { s with sched := ms }) hb hq), ← hi]

/-- Settles O49: every turn answers a next state. -/
theorem everyStepAnswersANextState : Obligations.EveryStepAnswersANextState := by
  unfold Obligations.EveryStepAnswersANextState
  intro s hw
  obtain ⟨u, hu, -⟩ := step_turn hw
  exact ⟨u, hu⟩

/-- Settles O28: RETURN is the one command that writes the dispatch fields, and the engine and a poll write none of them inside a dispatch. -/
theorem dispatchIsLeftOnlyByReturnOrReset : Obligations.DispatchIsLeftOnlyByReturnOrReset := by
  unfold Obligations.DispatchIsLeftOnlyByReturnOrReset
  intro s u h hr
  obtain ⟨-, hturn⟩ := turn_of_step h
  cases hturn with
  | waits _ hu | arrives _ hu | unused _ _ hu =>
    subst hu
    exact .inl ⟨hr, rfl, rfl⟩
  | resets hs => exact .inr (.inl ⟨_, hs⟩)
  | engine _ hout => exact absurd hr hout
  | poll _ _ hout =>
    obtain ⟨_, _, _, _, _, _, _, -, hu⟩ := hout.frame
    rw [hu]
    exact .inl ⟨hr, rfl, rfl⟩
  | host hs hb hc hi heffect =>
    cases heffect with
    | send _ hu =>
      obtain ⟨_, _, _, _, -, rfl⟩ := hu
      exact .inl ⟨hr, rfl, rfl⟩
    | registers _ _ hu | drains _ _ _ _ hu | starts _ _ _ hu | answers _ _ hu =>
      rw [hu]
      exact .inl ⟨hr, rfl, rfl⟩
    | returns _ _ hu => exact .inr (.inr ⟨_, _, _, hs, hc, hb, hi, by rw [hu]⟩)

end Sys2Proof.Machine
end

section
/-! PROOFS. The obligations that every step keeps or tracks something: the flag (R22), the payload (R142, R149 to R157), the queue (R50, R62), the
handler table (R213), the end of a run (R275, R276), a repeated HAS_NEXT (R59). -/

namespace Sys2Proof.Machine

/-- Settles O14: what RxStep and NextPoll make of the flag. -/
theorem escPendingTracksTokenStarts : Obligations.EscPendingTracksTokenStarts := by
  unfold Obligations.EscPendingTracksTokenStarts
  intro s u m ms b q hq hm h
  obtain ⟨hw, -⟩ := turn_of_step h
  obtain ⟨rfl, hr⟩ | ⟨rfl, hb⟩ := hm
  case inl =>
    obtain rfl := Host.Outcome.next.inj ((step_engine_eq_rxStepSpec ms hw hr hq).symm.trans h)
    have hout := rxStepSpec_outcome (s := { s with rxq := q, sched := ms }) b hr
    obtain ⟨_, _, _, _, _, _, _, hu⟩ := hout.frame
    exact ⟨congrArg State.rxq hu, hout.escPending_iff⟩
  case inr =>
    obtain rfl := Host.Outcome.next.inj ((step_poll_eq_nextPollSpec ms hw hb).symm.trans h)
    have hout := nextPollSpec_outcome { s with sched := ms }
    cases hout with
    | pollsOn hq' he _ hu =>
      obtain ⟨rfl, rfl⟩ := List.cons.inj (hq.symm.trans hq')
      rw [hu]
      exact ⟨rfl, he⟩
    | delivers hq' hesc _ hu | closes hq' hesc _ hu =>
      obtain ⟨rfl, rfl⟩ := List.cons.inj (hq.symm.trans hq')
      rw [hu]
      exact ⟨rfl, escDown_iff hesc⟩
    | counts hnil _ _ | timesOut hnil _ => exact absurd (hq.symm.trans hnil) (List.cons_ne_nil b q)

/-- Settles O22: HAS_NEXT waits, or interrupts a gather and runs passes that keep the payload. -/
theorem hasNextKeepsThePayload : Obligations.HasNextKeepsThePayload := by
  unfold Obligations.HasNextKeepsThePayload
  intro s u _ h
  obtain ⟨-, rfl⟩ | ⟨-, rfl⟩ := exec_command_eq_next (i := .hasNext) rfl h
  case inl => rfl
  case inr =>
    obtain ⟨r, hv⟩ := interruptGather_fields s
    have hkeep : s.interruptGather.payload = s.payload := by rw [hv]; rfl
    exact (payload_hasNext s.interruptGather).trans hkeep

/-- Settles O23: the first HAS_NEXT ends in a state that answers, and no gather is left for the second to interrupt. -/
theorem hasNextTwiceGivesTheSameAnswer : Obligations.HasNextTwiceGivesTheSameAnswer := by
  unfold Obligations.HasNextTwiceGivesTheSameAnswer
  intro s u hb h
  have hrun : exec .hasNext s = .next s.interruptGather.hasNext := exec_command_free (i := .hasNext) rfl hb
  obtain rfl := Host.Outcome.next.inj (hrun.symm.trans h)
  obtain ⟨r, hrsp, hagain⟩ := hasNext_hasNext s.interruptGather
  obtain ⟨hbusy, hgather⟩ := hasNext_port s.interruptGather
  obtain ⟨g, hv⟩ := interruptGather_fields s
  refine ⟨r, by rw [hrsp, List.getLast?_concat], ?_⟩
  rw [exec_hasNext_free (by rw [hbusy, hv]; exact hb) (by rw [hgather, hv]), hagain]

theorem payloadBytes_append (cfg : Config) (e : Bool) (q bs : List Byte) :
    ∃ more, payloadBytes cfg e (q ++ bs) = payloadBytes cfg e q ++ more := by
  induction q generalizing e with
  | nil => exact ⟨payloadBytes cfg e bs, by cases e <;> rfl⟩
  | cons b q ih =>
    obtain ⟨plain, hplain⟩ := ih false
    obtain ⟨pair, hpair⟩ := ih true
    cases e with
    | false =>
      by_cases hb : b = cfg.esc
      · exact ⟨pair, by rw [hb, List.cons_append, payloadBytes_esc, payloadBytes_esc, hpair]⟩
      · exact ⟨plain, by rw [List.cons_append, payloadBytes_ordinary hb, payloadBytes_ordinary hb, hplain]; rfl⟩
    | true =>
      by_cases hlit : b = cfg.literal
      · exact ⟨plain, by rw [hlit, List.cons_append, payloadBytes_literal, payloadBytes_literal, hplain]; rfl⟩
      · by_cases hclose : b = START ∨ b = END
        · exact ⟨[], by rw [List.cons_append, payloadBytes_closes hlit hclose, payloadBytes_closes hlit hclose]; rfl⟩
        · obtain ⟨hstart, hend⟩ := not_or.1 hclose
          have hcode := And.intro hstart (And.intro hend hlit)
          exact ⟨plain, by rw [List.cons_append, payloadBytes_malformed hcode, payloadBytes_malformed hcode, hplain]⟩

/-- Settles O25: what each outcome of NextPoll makes of the payload, and that bytes at the end of the queue only extend it. -/
theorem pollsDeliverThePayloadInOrder : Obligations.PollsDeliverThePayloadInOrder := by
  unfold Obligations.PollsDeliverThePayloadInOrder
  intro s hw hb hm
  refine ⟨fun ms u h => ?poll, fun bs => ?arrival⟩
  case poll =>
    obtain rfl := Host.Outcome.next.inj ((step_poll_eq_nextPollSpec ms hw hb).symm.trans h)
    exact (nextPollSpec_outcome { s with sched := ms }).payload_cases hb hm
  case arrival =>
    rw [payload_open hm, payload_open (by exact hm)]
    exact payloadBytes_append s.cfg s.escPending s.rxq bs

/-- Settles O53: by the turn; HAS_NEXT is the one command, and a poll the one other step, that takes bytes inside a dispatch. -/
theorem bytesLeaveTheQueueInOrder : Obligations.BytesLeaveTheQueueInOrder := by
  unfold Obligations.BytesLeaveTheQueueInOrder
  intro s u h
  obtain ⟨-, hturn⟩ := turn_of_step h
  have untouched (hq : s.rxq = u.rxq) : ∃ used, s.rxq = used ++ u.rxq ∧
      (used ≠ [] → s.rxState = .dispatching →
        (∃ ms, s.sched = .poll :: ms ∧ s.nextBusy = true ∧ used.length = 1) ∨
        (∃ ms w ws, s.sched = .host :: ms ∧ s.cmdq = w :: ws ∧ decode s.cfg (.word w) = .hasNext)) :=
    ⟨[], hq, fun hne => absurd rfl hne⟩
  cases hturn with
  | arrives hs hu => exact .inl ⟨_, _, hs, hu⟩
  | waits _ hu | unused _ _ hu => exact .inr (untouched (by rw [hu]))
  | resets _ hu => exact .inr (untouched (by rw [hu]; rfl))
  | engine _ hr hq hout =>
    obtain ⟨_, _, _, _, _, _, _, hu⟩ := hout.frame
    exact .inr ⟨[_], by rw [hu]; exact hq, fun _ hd => absurd hd hr⟩
  | poll hs hb hout =>
    obtain ⟨_, _, _, _, _, _, _, hq | ⟨b, hq⟩, hu⟩ := hout.frame
    · exact .inr (untouched (by rw [hu]; exact hq.symm))
    · exact .inr ⟨[b], by rw [hu]; exact hq, fun _ _ => .inl ⟨_, hs, hb, rfl⟩⟩
  | host hs _ hc hi heffect =>
    cases heffect with
    | send _ hu =>
      obtain ⟨_, _, _, _, -, rfl⟩ := hu
      exact .inr (untouched rfl)
    | registers _ _ hu | starts _ _ _ hu | returns _ _ hu | answers _ _ hu => exact .inr (untouched (by rw [hu]))
    | drains _ hq _ _ hu => exact .inr ⟨_, by rw [hu]; exact hq, fun _ _ => .inr ⟨_, _, _, hs, hc, hi⟩⟩

/-- No step writes the configuration (R263). -/
theorem Turn.cfg_eq {s u : State} (h : Turn s u) : u.cfg = s.cfg := by
  cases h with
  | waits _ hu | arrives _ hu | unused _ _ hu => rw [hu]
  | resets _ hu => rw [hu]; rfl
  | engine _ _ _ hout =>
    obtain ⟨_, _, _, _, _, _, _, hu⟩ := hout.frame
    rw [hu]
  | poll _ _ hout =>
    obtain ⟨_, _, _, _, _, _, _, -, hu⟩ := hout.frame
    rw [hu]
  | host _ _ _ _ heffect =>
    cases heffect with
    | send _ hu =>
      obtain ⟨_, _, _, _, -, rfl⟩ := hu
      rfl
    | registers _ _ hu | starts _ _ _ hu | returns _ _ hu | answers _ _ hu | drains _ _ _ _ hu => rw [hu]

/-- What a step can do to the handler table. -/
theorem Turn.table_cases {s u : State} (h : Turn s u) :
    u.table = s.table ∨
      (∃ ms, s.sched = .reset :: ms ∧ u.table = List.replicate s.cfg.nTypes none) ∨
      (∃ ms w ws t h, s.sched = .host :: ms ∧ s.cmdq = w :: ws ∧ decode s.cfg (.word w) = .register t h ∧
        t.toNat < s.cfg.nTypes ∧ u.table = s.table.set t.toNat (some h)) := by
  cases h with
  | waits _ hu | arrives _ hu | unused _ _ hu => exact .inl (by rw [hu])
  | resets hs hu => exact .inr (.inl ⟨_, hs, by rw [hu]; rfl⟩)
  | engine _ _ _ hout =>
    obtain ⟨_, _, _, _, _, _, _, hu⟩ := hout.frame
    exact .inl (by rw [hu])
  | poll _ _ hout =>
    obtain ⟨_, _, _, _, _, _, _, -, hu⟩ := hout.frame
    exact .inl (by rw [hu])
  | host hs _ hc hi heffect =>
    cases heffect with
    | send _ hu =>
      obtain ⟨_, _, _, _, -, rfl⟩ := hu
      exact .inl rfl
    | starts _ _ _ hu | returns _ _ hu | answers _ _ hu | drains _ _ _ _ hu => exact .inl (by rw [hu])
    | registers ht _ hu => exact .inr (.inr ⟨_, _, _, _, _, hs, hc, hi, ht, by rw [hu]⟩)

/-- Settles O43: what a step can do to the table, and that setting a slot keeps its length. -/
theorem tableIsWrittenOnlyByRegisterAndReset : Obligations.TableIsWrittenOnlyByRegisterAndReset := by
  unfold Obligations.TableIsWrittenOnlyByRegisterAndReset
  intro s u h
  obtain ⟨-, hturn⟩ := turn_of_step h
  refine ⟨hturn.cfg_eq, fun hw => ?form, hturn.table_cases⟩
  case form =>
    rw [tableWf_iff] at hw ⊢
    rw [hturn.cfg_eq]
    obtain htable | ⟨_, -, htable⟩ | ⟨_, _, _, _, _, -, -, -, -, htable⟩ := hturn.table_cases
    · rw [htable, hw]
    · rw [htable, List.length_replicate]
    · rw [htable, List.length_set, hw]

/-- Settles O54: an ended run has no enabled turn; a poll finishes, consumes or counts, and RxStep consumes. -/
theorem endedMachineHasNoStepLeft : Obligations.EndedMachineHasNoStepLeft := by
  unfold Obligations.EndedMachineHasNoStepLeft
  intro s ms hw
  refine ⟨fun hended m hm => ?ended, fun hb => ?poll, fun hr hne => ?engine⟩
  case ended =>
    obtain ⟨hc, -, hb, -, hq⟩ := hended
    obtain rfl | rfl | rfl := hm
    · exact step_of_disabled ms hw (.inl ⟨rfl, .inr hq⟩)
    · exact step_of_disabled ms hw (.inr (.inl ⟨rfl, hb⟩))
    · exact step_of_disabled ms hw (.inr (.inr ⟨rfl, .inr hc⟩))
  case poll =>
    refine ⟨_, step_poll_eq_nextPollSpec ms hw hb, ?_⟩
    cases nextPollSpec_outcome { s with sched := ms } with
    | pollsOn hq _ _ hu =>
      have hlen := congrArg List.length hq
      exact .inr (.inl (by rw [hu]; exact hlen ▸ Nat.lt_succ_self _))
    | counts _ _ hu => exact .inr (.inr (by rw [hu]))
    | delivers _ _ _ hu | closes _ _ _ hu | timesOut _ hu => exact .inl (by rw [hu]; rfl)
  case engine =>
    obtain ⟨b, q, hq⟩ := List.exists_cons_of_ne_nil hne
    refine ⟨_, step_engine_eq_rxStepSpec ms hw hr hq, ?_⟩
    obtain ⟨_, _, _, _, _, _, _, hu⟩ := (rxStepSpec_outcome (s := { s with rxq := q, sched := ms }) b hr).frame
    rw [hu, hq]
    rfl

end Sys2Proof.Machine
end

section
/-! PROOFS. The invariant of the block state (10_state.md section 8, R34): it holds at launch, and every turn keeps it. -/

namespace Sys2Proof.Machine

/-- The queue, the logs, the send half and the model's own lists are no part of the invariant. -/
theorem Inv.untracked {s : State} (h : Inv s) (e o : Bool) (q l : List Byte) (d : List (HandlerId × Byte))
    (r : List Response) (c : List CmdWord) (ms : List Move) :
    Inv { s with escPending := e, txOpen := o, rxq := q, txlog := l, disp := d, rsp := r, cmdq := c, sched := ms } :=
  { h with }

/-- The gather is a part of its own. -/
theorem Inv.gather {s : State} (h : Inv s) {c : Option Collect} (hc : GatherBounds s.collect → GatherBounds c) :
    Inv { s with collect := c } :=
  { h with gatherBounds := hc h.gatherBounds }

/-- Outside a dispatch the invariant leaves the dispatch fields and the NEXT no value but that of reset. -/
theorem Inv.outside {s : State} (h : Inv s) (hr : s.rxState ≠ .dispatching) :
    s.msgOpen = false ∧ s.curHandler.isSome = false ∧ s.curType.isSome = false ∧ s.nextBusy = false ∧
      s.afterReturn = .idle := by
  refine ⟨Bool.eq_false_iff.2 fun hm => hr (h.openOnlyInDispatch hm),
    Bool.eq_false_iff.2 fun hh => hr (h.handlerIffDispatch.2 hh),
    Bool.eq_false_iff.2 fun ht => hr (h.typeIffDispatch.2 ht),
    Bool.eq_false_iff.2 fun hb => hr (h.busyOnlyInOpenMessage hb).1, ?_⟩
  cases ha : s.afterReturn with
  | idle => rfl
  | awaitType => exact absurd (h.resumeOnlyAfterCut ha).1 hr

theorem Inv.retryBudget_pos {s : State} (h : Inv s) : 0 < s.cfg.retryBudget := by
  obtain ⟨-, -, -, -, hpos⟩ := (config_wf_iff s.cfg).1 h.configAdmitted
  exact hpos

/-- A state outside a dispatch whose fields have their reset values meets the invariant. -/
theorem inv_outside {s : State} (hw : s.cfg.wf = true) (ht : s.tableWf = true) (hr : s.rxState ≠ .dispatching)
    (hm : s.msgOpen = false) (hh : s.curHandler.isSome = false) (hty : s.curType.isSome = false)
    (ha : s.afterReturn = .idle) (hb : s.nextBusy = false) (hretry : s.retry = 0) (hg : GatherBounds s.collect) :
    Inv s where
  configAdmitted := hw
  tableForm := ht
  openOnlyInDispatch h := absurd (hm.symm.trans h) Bool.false_ne_true
  handlerIffDispatch := ⟨fun h => absurd h hr, fun h => absurd (hh.symm.trans h) Bool.false_ne_true⟩
  typeIffDispatch := ⟨fun h => absurd h hr, fun h => absurd (hty.symm.trans h) Bool.false_ne_true⟩
  busyOnlyInOpenMessage h := absurd (hb.symm.trans h) Bool.false_ne_true
  retryOnlyWhileBusy h := absurd hretry h
  resumeOnlyAfterCut h := nomatch ha.symm.trans h
  retryBelowBudget := by
    obtain ⟨-, -, -, -, hpos⟩ := (config_wf_iff s.cfg).1 hw
    omega
  gatherBounds := hg

theorem Inv.retry_eq_zero {s : State} (h : Inv s) (hb : s.nextBusy = false) : s.retry = 0 :=
  Decidable.byContradiction fun hne => Bool.false_ne_true (hb.symm.trans (h.retryOnlyWhileBusy hne))

theorem RxOutcome.inv {s u : State} {b : Byte} (h : RxOutcome s b u) (hs : Inv s) (hr : s.rxState ≠ .dispatching) :
    Inv u := by
  obtain ⟨hm, hh, ht, hb, ha⟩ := hs.outside hr
  cases h with
  | moves hr' _ hu =>
    rw [hu]
    exact inv_outside hs.configAdmitted hs.tableForm hr' hm hh ht ha hb (hs.retry_eq_zero hb) hs.gatherBounds
  | dispatches _ _ _ _ hu =>
    rw [hu]
    exact { hs with
      openOnlyInDispatch := fun _ => rfl
      handlerIffDispatch := iff_of_true rfl rfl
      typeIffDispatch := iff_of_true rfl rfl
      busyOnlyInOpenMessage := fun _ => ⟨rfl, rfl⟩
      resumeOnlyAfterCut := nofun }

/-- The end of a NEXT with its message open or closed. -/
theorem Inv.finish {s : State} (h : Inv s) (st : Status) (d : Byte) : Inv (finishSpec s st d) :=
  { h with
    busyOnlyInOpenMessage := nofun
    retryOnlyWhileBusy := fun hne => absurd rfl hne
    retryBelowBudget := h.retryBudget_pos }

theorem PollOutcome.inv {s u : State} (h : PollOutcome s u) (hs : Inv s) (hb : s.nextBusy = true) : Inv u := by
  obtain ⟨hr, hm⟩ := hs.busyOnlyInOpenMessage hb
  cases h with
  | pollsOn _ _ _ hu =>
    rw [hu]
    exact { hs with
      retryOnlyWhileBusy := fun _ => hb
      retryBelowBudget := hs.retryBudget_pos }
  | @delivers b v q _ _ _ hu =>
    rw [hu]
    exact (hs.untracked false _ q _ _ _ _ _).finish .ok v
  | closes _ _ _ hu =>
    rw [hu]
    exact { hs with
      openOnlyInDispatch := nofun
      busyOnlyInOpenMessage := nofun
      retryOnlyWhileBusy := fun hne => absurd rfl hne
      resumeOnlyAfterCut := fun _ => ⟨hr, rfl⟩
      retryBelowBudget := hs.retryBudget_pos }
  | counts _ hleft hu =>
    rw [hu]
    have hbelow : s.retry + 1 < s.cfg.retryBudget := by
      have := hs.retryBelowBudget
      omega
    exact { hs with
      retryOnlyWhileBusy := fun _ => hb
      retryBelowBudget := hbelow }
  | timesOut _ hu =>
    rw [hu]
    exact hs.finish .timeout SENTINEL

theorem CommandEffect.inv {s u : State} {i : Instr} (h : CommandEffect s u i) (hs : Inv s) (hb : s.nextBusy = false) :
    Inv u := by
  cases h with
  | send _ hu =>
    obtain ⟨_, _, _, _, hc, rfl⟩ := hu
    exact (hs.gather hc).untracked _ _ _ _ _ _ _ _
  | @registers t h _ _ _ hc hu =>
    rw [hu]
    have hform : (s.tableWrite t h).tableWf = true := (tableWf_tableWrite s t h).trans hs.tableForm
    exact { hs.gather hc with tableForm := hform }
  | drains hr _ hm hc hu =>
    rw [hu]
    exact { hs.gather hc with
      openOnlyInDispatch := fun _ => hr
      busyOnlyInOpenMessage := fun h => absurd (hb.symm.trans h) Bool.false_ne_true
      resumeOnlyAfterCut := fun ha => ⟨hr, by
        obtain hclosed | ⟨hopen, hresume⟩ := hm
        · exact hclosed
        · exact hopen.trans (hs.resumeOnlyAfterCut (hresume.symm.trans ha)).2⟩ }
  | starts hr hm hc hu =>
    rw [hu]
    exact { hs.gather hc with
      busyOnlyInOpenMessage := fun _ => ⟨hr, hm⟩
      retryOnlyWhileBusy := fun _ => rfl
      retryBelowBudget := hs.retryBudget_pos }
  | returns _ hc hu =>
    rw [hu]
    have hleft : s.afterReturn.rxState ≠ .dispatching := by cases s.afterReturn <;> nofun
    exact inv_outside hs.configAdmitted hs.tableForm hleft rfl rfl rfl rfl hb (hs.retry_eq_zero hb) (hc hs.gatherBounds)
  | answers _ hc hu =>
    rw [hu]
    exact (hs.gather hc).untracked _ _ _ _ _ _ _ _

theorem inv_resetBlock {s : State} (hw : s.cfg.wf = true) : Inv s.resetBlock :=
  inv_outside hw (tableWf_resetBlock s) nofun rfl rfl rfl rfl rfl rfl gatherBounds_none

/-- Settles O50: each outcome of a turn keeps the invariant, which does not see the lists that the turn itself uses up. -/
theorem stepKeepsTheInvariant : Obligations.StepKeepsTheInvariant := by
  unfold Obligations.StepKeepsTheInvariant
  intro s u hs h
  obtain ⟨hw, hturn⟩ := turn_of_step h
  cases hturn with
  | waits _ hu => exact hu ▸ hs
  | arrives _ hu | unused _ _ hu =>
    rw [hu]
    exact hs.untracked _ _ _ _ _ _ _ _
  | resets _ hu =>
    rw [hu]
    exact inv_resetBlock hw
  | engine _ hr _ hout => exact hout.inv (hs.untracked _ _ _ _ _ _ _ _) hr
  | poll _ hb hout => exact hout.inv (hs.untracked _ _ _ _ _ _ _ _) hb
  | host _ hb _ _ heffect => exact heffect.inv (hs.untracked _ _ _ _ _ _ _ _) hb

/-- Settles O51: the launch state has the reset values. -/
theorem launchMeetsTheInvariant : Obligations.LaunchMeetsTheInvariant := by
  unfold Obligations.LaunchMeetsTheInvariant
  intro cfg rxq hw
  exact inv_outside hw (tableWf_launch cfg rxq) nofun rfl rfl rfl rfl rfl rfl gatherBounds_none

end Sys2Proof.Machine
end

section
/-! PROOFS. What a step can write to the TX log (R51, R180 to R184, R260), that all of it is whole tokens (R57), and that it keeps the log's frames
in order (R188). -/

namespace Sys2Proof.Machine

/-! ## What a step can write -/

/-- What becomes of the send half but for a reset: nothing, or one of the encoder's four writes with its use of the guard. -/
inductive TxMove (s u : State) : Prop
  | keeps (hl : u.txlog = s.txlog) (ho : u.txOpen = s.txOpen)
  | opens (t : Byte) (hs : s.txOpen = false) (hl : u.txlog = s.txlog ++ openBytes s.cfg t) (ho : u.txOpen = true)
  | writes (b : Byte) (hs : s.txOpen = true) (hl : u.txlog = s.txlog ++ enc s.cfg b) (ho : u.txOpen = true)
  | closes (hs : s.txOpen = true) (hl : u.txlog = s.txlog ++ closeBytes s.cfg) (ho : u.txOpen = false)
  | sends (t : Byte) (bs : List Byte) (hs : s.txOpen = false) (hl : u.txlog = s.txlog ++ frame s.cfg t bs)
      (ho : u.txOpen = false)

theorem beginSend_txMove (s : State) (t : Byte) : TxMove s (s.beginSend t) := by
  cases h : s.txOpen with
  | false =>
    rw [beginSend_of_not_txOpen h]
    exact .opens t h rfl rfl
  | true =>
    rw [beginSend_of_txOpen h]
    exact .keeps rfl rfl

theorem sendByte_txMove (s : State) (b : Byte) : TxMove s (s.sendByte b) := by
  cases h : s.txOpen with
  | false =>
    rw [sendByte_of_not_txOpen h]
    exact .keeps rfl rfl
  | true =>
    rw [sendByte_of_txOpen h]
    exact .writes b h rfl h

theorem endSend_txMove (s : State) : TxMove s s.endSend := by
  cases h : s.txOpen with
  | false =>
    rw [endSend_of_not_txOpen h]
    exact .keeps rfl rfl
  | true =>
    rw [endSend_of_txOpen h]
    exact .closes h rfl rfl

theorem sendWhole_txMove (s : State) (t : Byte) (bs : List Byte) : TxMove s (s.sendWhole t bs) := by
  cases h : s.txOpen with
  | false =>
    rw [sendWhole_of_not_txOpen h]
    exact .sends t bs h rfl h
  | true =>
    rw [sendWhole_of_txOpen h]
    exact .keeps rfl rfl

theorem sendBufHeader_txMove (s : State) (t : Byte) (len : BitVec 16) : TxMove s (s.sendBufHeader t len) := by
  obtain ⟨-, h⟩ | ⟨-, h⟩ := sendBufHeader_eq s t len
  · exact h ▸ sendWhole_txMove s t []
  · rw [h]
    exact .keeps rfl rfl

/-- What comes before an encoder command on its way through the port leaves the send half alone. -/
theorem TxMove.of_keeps {s v u : State} (h : TxMove v u) (hcfg : v.cfg = s.cfg) (hl : v.txlog = s.txlog)
    (ho : v.txOpen = s.txOpen) : TxMove s u := by
  cases h with
  | keeps hul huo => exact .keeps (hul.trans hl) (huo.trans ho)
  | opens t hs hul huo => exact .opens t (ho ▸ hs) (hl ▸ hcfg ▸ hul) huo
  | writes b hs hul huo => exact .writes b (ho ▸ hs) (hl ▸ hcfg ▸ hul) huo
  | closes hs hul huo => exact .closes (ho ▸ hs) (hl ▸ hcfg ▸ hul) huo
  | sends t bs hs hul huo => exact .sends t bs (ho ▸ hs) (hl ▸ hcfg ▸ hul) huo

theorem sendBufBeat_txMove (s : State) (b : Byte) : TxMove s (s.sendBufBeat b) := by
  obtain ⟨-, h⟩ | ⟨g, -, ⟨-, h⟩ | ⟨-, h⟩⟩ := sendBufBeat_eq s b
  · rw [h]
    exact .keeps rfl rfl
  · rw [h]
    exact (sendWhole_txMove _ g.type (g.bytes ++ [b])).of_keeps rfl rfl rfl
  · rw [h]
    exact .keeps rfl rfl

theorem TxMove.of_interruptGather {s u : State} (h : TxMove s.interruptGather u) : TxMove s u := by
  obtain ⟨r, hv⟩ := interruptGather_fields s
  exact h.of_keeps (by rw [hv]) (by rw [hv]) (by rw [hv])

theorem command_txMove (s : State) {i : Instr} (hi : isEncoderCommand i = true) : TxMove s (s.command i) := by
  cases i with
  | beginSend t => exact (beginSend_txMove _ t).of_interruptGather
  | sendByte b => exact (sendByte_txMove _ b).of_interruptGather
  | endSend => exact (endSend_txMove _).of_interruptGather
  | send t => exact (sendWhole_txMove _ t []).of_interruptGather
  | sendBuf t len => exact (sendBufHeader_txMove _ t len).of_interruptGather
  | sendBufData b => exact sendBufBeat_txMove s b
  | _ => cases hi

/-- A turn is a reset, which keeps the log (R261), or moves the send half as above. -/
theorem Turn.txMove {s u : State} (h : Turn s u) :
    (∃ ms, s.sched = .reset :: ms) ∧ u.txlog = s.txlog ∨ TxMove s u := by
  cases h with
  | resets hs hu => exact .inl ⟨⟨_, hs⟩, by rw [hu]; rfl⟩
  | waits _ hu | arrives _ hu | unused _ _ hu => exact .inr (.keeps (by rw [hu]) (by rw [hu]))
  | engine _ _ _ hout =>
    obtain ⟨_, _, _, _, _, _, _, hu⟩ := hout.frame
    exact .inr (.keeps (by rw [hu]) (by rw [hu]))
  | poll _ _ hout =>
    obtain ⟨_, _, _, _, _, _, _, -, hu⟩ := hout.frame
    exact .inr (.keeps (by rw [hu]) (by rw [hu]))
  | host _ _ _ _ heffect hcmd =>
    cases heffect with
    | send hi _ =>
      rw [hcmd]
      exact .inr ((command_txMove _ hi).of_keeps rfl rfl rfl)
    | registers _ _ hu | starts _ _ _ hu | returns _ _ hu | answers _ _ hu | drains _ _ _ _ hu =>
      exact .inr (.keeps (by rw [hu]) (by rw [hu]))

/-! ## Whole tokens (R57) -/

/-- A byte sequence is cut as its first part is, and then as its second part is, from where the first one ends. -/
theorem tokenize_append (cfg : Config) (e : Bool) (as bs : List Byte) :
    tokenize cfg e (as ++ bs) =
      ((tokenize cfg e as).1 ++ (tokenize cfg (tokenize cfg e as).2 bs).1, (tokenize cfg (tokenize cfg e as).2 bs).2) := by
  induction as generalizing e with
  | nil => cases e <;> rfl
  | cons b as ih =>
    cases e with
    | true => simp only [List.cons_append, tokenize, ih]
    | false =>
      simp only [List.cons_append, tokenize]
      split
      · exact ih true
      · simp only [ih, List.cons_append]

/-- Bytes that are whole tokens, none of them a malformed pair. -/
def WholeTokens (cfg : Config) (bs : List Byte) : Prop :=
  ∃ ks : List Token, bs = ks.flatMap (Token.bytes cfg) ∧ ∀ k ∈ ks, k.wf cfg = true ∧ ∀ c, k ≠ .bad c

theorem wholeTokens_nil (cfg : Config) : WholeTokens cfg [] := ⟨[], rfl, nofun⟩

theorem WholeTokens.append {cfg : Config} {as bs : List Byte} (ha : WholeTokens cfg as) (hb : WholeTokens cfg bs) :
    WholeTokens cfg (as ++ bs) := by
  obtain ⟨ks, rfl, hks⟩ := ha
  obtain ⟨js, rfl, hjs⟩ := hb
  exact ⟨ks ++ js, List.flatMap_append.symm, fun k hk => (List.mem_append.1 hk).elim (hks k) (hjs k)⟩

theorem wholeTokens_token {cfg : Config} (k : Token) (hk : k.wf cfg = true) (hbad : ∀ c, k ≠ .bad c) :
    WholeTokens cfg (k.bytes cfg) :=
  ⟨[k], (List.flatMap_singleton _ k).symm, List.forall_mem_singleton.2 ⟨hk, hbad⟩⟩

theorem dataToken_ne_bad (cfg : Config) (v c : Byte) : dataToken cfg v ≠ .bad c := by
  unfold dataToken
  split <;> nofun

theorem wholeTokens_enc (cfg : Config) (v : Byte) : WholeTokens cfg (enc cfg v) := by
  rw [← dataToken_bytes]
  exact wholeTokens_token _ (dataToken_wf cfg v) (dataToken_ne_bad cfg v)

theorem wholeTokens_openBytes (cfg : Config) (t : Byte) : WholeTokens cfg (openBytes cfg t) :=
  (wholeTokens_token .start rfl nofun).append (wholeTokens_enc cfg t)

theorem wholeTokens_closeBytes (cfg : Config) : WholeTokens cfg (closeBytes cfg) := wholeTokens_token .stop rfl nofun

theorem wholeTokens_flatMap_enc (cfg : Config) (bs : List Byte) : WholeTokens cfg (bs.flatMap (enc cfg)) := by
  induction bs with
  | nil => exact wholeTokens_nil cfg
  | cons b bs ih => exact (wholeTokens_enc cfg b).append ih

theorem wholeTokens_frame (cfg : Config) (t : Byte) (bs : List Byte) : WholeTokens cfg (frame cfg t bs) :=
  ((wholeTokens_openBytes cfg t).append (wholeTokens_flatMap_enc cfg bs)).append (wholeTokens_closeBytes cfg)

theorem TxMove.wholeTokens {s u : State} (h : TxMove s u) : ∃ bs, u.txlog = s.txlog ++ bs ∧ WholeTokens s.cfg bs := by
  cases h with
  | keeps hl _ => exact ⟨[], by rw [hl, List.append_nil], wholeTokens_nil _⟩
  | opens t _ hl _ => exact ⟨_, hl, wholeTokens_openBytes _ t⟩
  | writes b _ hl _ => exact ⟨_, hl, wholeTokens_enc _ b⟩
  | closes _ hl _ => exact ⟨_, hl, wholeTokens_closeBytes _⟩
  | sends t bs _ hl _ => exact ⟨_, hl, wholeTokens_frame _ t bs⟩

/-- Whole tokens at the end of an aligned log keep it aligned. -/
theorem TxAligned.append {s u : State} {bs : List Byte} (hw : s.cfg.wf = true) (h : TxAligned s)
    (hcfg : u.cfg = s.cfg) (hl : u.txlog = s.txlog ++ bs) (hbs : WholeTokens s.cfg bs) : TxAligned u := by
  obtain ⟨hend, hgood⟩ := h
  obtain ⟨ks, rfl, hks⟩ := hbs
  have hcut : tokenize u.cfg false u.txlog = ((tokenize s.cfg false s.txlog).1 ++ ks, false) := by
    rw [hcfg, hl, tokenize_append, hend, tokenize_tokens hw ks fun k hk => (hks k hk).1]
  unfold TxAligned
  rw [hcut]
  exact ⟨rfl, fun k hk => (List.mem_append.1 hk).elim (hgood k) fun hmem => (hks k hmem).2⟩

/-- Settles O38: whatever a step adds to the log is whole tokens without a malformed pair. -/
theorem txTokensStayAligned : Obligations.TxTokensStayAligned := by
  unfold Obligations.TxTokensStayAligned
  intro s u hs h
  obtain ⟨hw, hturn⟩ := turn_of_step h
  obtain ⟨bs, hl, hbs⟩ : ∃ bs, u.txlog = s.txlog ++ bs ∧ WholeTokens s.cfg bs := by
    obtain ⟨-, hl⟩ | hmove := hturn.txMove
    · exact ⟨[], by rw [hl, List.append_nil], wholeTokens_nil _⟩
    · exact hmove.wholeTokens
  exact hs.append hw hturn.cfg_eq hl hbs

/-! ## Whole frames (R188) -/

theorem flatMap_frame_concat (cfg : Config) (fs : List (Byte × List Byte)) (t : Byte) (ps : List Byte) :
    (fs ++ [(t, ps)]).flatMap (fun f => frame cfg f.1 f.2) = fs.flatMap (fun f => frame cfg f.1 f.2) ++ frame cfg t ps := by
  rw [List.flatMap_append, List.flatMap_singleton]

/-- The log of a closed guard is whole frames; so it is one of them more after any state that closes it. -/
theorem txFrames_of_closed {u : State} (fs : List (Byte × List Byte)) (ho : u.txOpen = false)
    (hl : u.txlog = fs.flatMap (fun f => frame u.cfg f.1 f.2)) : TxFrames u :=
  ⟨fs, [], by rw [hl, List.append_nil], fun _ => rfl, fun h => absurd (ho.symm.trans h) Bool.false_ne_true⟩

theorem txFrames_of_open {u : State} (fs : List (Byte × List Byte)) (t : Byte) (ps : List Byte) (ho : u.txOpen = true)
    (hl : u.txlog = fs.flatMap (fun f => frame u.cfg f.1 f.2) ++ (openBytes u.cfg t ++ ps.flatMap (enc u.cfg))) :
    TxFrames u :=
  ⟨fs, _, hl, fun h => absurd (h.symm.trans ho) Bool.false_ne_true, fun _ => ⟨t, ps, rfl⟩⟩

theorem TxMove.txFrames {s u : State} (h : TxMove s u) (hcfg : u.cfg = s.cfg) (hs : TxFrames s) : TxFrames u := by
  obtain ⟨fs, rest, hlog, hclosed, hopen⟩ := hs
  cases h with
  | keeps hl ho => exact ⟨fs, rest, by rw [hl, hcfg, hlog], fun h => hclosed (ho ▸ h), fun h => hcfg ▸ hopen (ho ▸ h)⟩
  | opens t hdown hl ho =>
    obtain rfl := hclosed hdown
    refine txFrames_of_open fs t [] ho ?_
    rw [hl, hlog, hcfg, List.append_nil, List.flatMap_nil, List.append_nil]
  | writes b hup hl ho =>
    obtain ⟨t, ps, rfl⟩ := hopen hup
    refine txFrames_of_open fs t (ps ++ [b]) ho ?_
    rw [hl, hlog, hcfg, List.flatMap_append, List.flatMap_singleton, List.append_assoc, List.append_assoc]
  | closes hup hl ho =>
    obtain ⟨t, ps, rfl⟩ := hopen hup
    refine txFrames_of_closed (fs ++ [(t, ps)]) ho ?_
    rw [hl, hlog, hcfg, flatMap_frame_concat, frame_eq, List.append_assoc]
  | sends t bs hdown hl ho =>
    obtain rfl := hclosed hdown
    refine txFrames_of_closed (fs ++ [(t, bs)]) ho ?_
    rw [hl, hlog, hcfg, flatMap_frame_concat, List.append_nil]

/-- Settles O39: each write of the encoder begins, extends, ends or is a whole frame, by the state of the guard. -/
theorem txLogStaysFrames : Obligations.TxLogStaysFrames := by
  unfold Obligations.TxLogStaysFrames
  intro s u hs hreset h
  obtain ⟨-, hturn⟩ := turn_of_step h
  obtain ⟨⟨ms, hms⟩, -⟩ | hmove := hturn.txMove
  · exact absurd hms (hreset ms)
  · exact hmove.txFrames hturn.cfg_eq hs

end Sys2Proof.Machine
end

section
/-! PROOFS. What each row leaves unchanged, and that no row but the encoder's reads the send half (R64). -/

namespace Sys2Proof.Machine

/-! ## The guard of the send operations that keep it -/

theorem txOpen_interruptGather (s : State) : s.interruptGather.txOpen = s.txOpen := by
  obtain ⟨_, hv⟩ := interruptGather_fields s
  rw [hv]

theorem txOpen_sendByte (s : State) (b : Byte) : (s.sendByte b).txOpen = s.txOpen := by
  cases h : s.txOpen with
  | false => rw [sendByte_of_not_txOpen h]; exact h
  | true => rw [sendByte_of_txOpen h]; exact h

theorem txOpen_sendWhole (s : State) (t : Byte) (bs : List Byte) : (s.sendWhole t bs).txOpen = s.txOpen := by
  cases h : s.txOpen with
  | false => rw [sendWhole_of_not_txOpen h]; exact h
  | true => rw [sendWhole_of_txOpen h]; exact h

theorem txOpen_sendBufHeader (s : State) (t : Byte) (len : BitVec 16) : (s.sendBufHeader t len).txOpen = s.txOpen := by
  obtain ⟨-, h⟩ | ⟨-, h⟩ := sendBufHeader_eq s t len
  · rw [h, txOpen_sendWhole]
  · rw [h]

theorem txOpen_sendBufBeat (s : State) (b : Byte) : (s.sendBufBeat b).txOpen = s.txOpen := by
  obtain ⟨-, h⟩ | ⟨_, -, ⟨-, h⟩ | ⟨-, h⟩⟩ := sendBufBeat_eq s b
  · rw [h]; rfl
  · rw [h, txOpen_sendWhole]
  · rw [h]

theorem txOpen_command {s : State} {i : Instr}
    (hi : ∃ t, i = .send t ∨ (∃ len, i = .sendBuf t len) ∨ i = .sendByte t ∨ i = .sendBufData t) :
    (s.command i).txOpen = s.txOpen := by
  obtain ⟨t, rfl | ⟨len, rfl⟩ | rfl | rfl⟩ := hi
  · exact (txOpen_sendWhole _ t []).trans (txOpen_interruptGather s)
  · exact (txOpen_sendBufHeader _ t len).trans (txOpen_interruptGather s)
  · exact (txOpen_sendByte _ t).trans (txOpen_interruptGather s)
  · exact txOpen_sendBufBeat s t

/-! ## Wire rows -/

/-- What a wire row does once RxRead has taken its byte (R103 to R114, R150 to R155). The row of no byte, and a command, takes none. -/
def tokenEffect (cfg : Config) : Instr → State → State
  | .rxIdleEsc => fun s => s.setEsc true
  | .rxIdleEscEnd => fun s => s.setEsc false
  | .rxIdleEscStart => fun s => (s.setEsc false).setRxState .awaitType
  | .rxIdleEscLiteral => fun s => s.setEsc false
  | .rxIdleEscOther _ => fun s => s.setEsc false
  | .rxAwaitType t => fun s => s.typeDecoded t
  | .rxAwaitEsc => fun s => s.setEsc true
  | .rxAwaitEscLiteral => fun s => (s.setEsc false).typeDecoded cfg.esc
  | .rxAwaitEscStart => fun s => s.setEsc false
  | .rxAwaitEscEnd => fun s => (s.setEsc false).setRxState .idle
  | .rxAwaitEscOther _ => fun s => (s.setEsc false).setRxState .idle
  | .curOrd d => fun s => (s.setRetry 0).finishNext .ok d
  | .curEsc => fun s => (s.setRetry 0).setEsc true
  | .curEscLiteral => fun s => ((s.setRetry 0).setEsc false).finishNext .ok cfg.esc
  | .curEscStart => fun s => ((s.setRetry 0).setEsc false).cutMessage.finishNext .closed SENTINEL
  | .curEscOther _ => fun s => (s.setRetry 0).setEsc false
  | .curEscEnd => fun s => ((s.setRetry 0).setEsc false).closeMessage.finishNext .closed SENTINEL
  | _ => fun s => s

/-- A row whose beat is a byte is the token guard of that byte, in front of its effect. -/
theorem exec_token {s : State} {i : Instr} {r : Reader} {e : Bool} {b : Byte} (hi : encode s.cfg i = .byte r e b) :
    exec i s = onToken r e b (i.wf s.cfg) s (tokenEffect s.cfg i) := by
  cases i with
  | curEmpty | beginSend _ | sendByte _ | endSend | send _ | sendBuf _ _ | sendBufData _ | register _ _ | hasNext | next
  | ret | reserved _ => cases hi
  | _ =>
    cases hi
    rfl

/-- Such a row that answers found its reader at work and its byte in front, and had its effect. -/
theorem exec_token_eq_next {s u : State} {i : Instr} {r : Reader} {e : Bool} {b : Byte}
    (hi : encode s.cfg i = .byte r e b) (h : exec i s = .next u) :
    s.reads r = true ∧ u = tokenEffect s.cfg i s.rxRead := by
  obtain ⟨hr, -, -, -, hu⟩ := onToken_eq_next ((exec_token hi).symm.trans h)
  exact ⟨hr, hu⟩

/-! ## The poll of an empty queue -/

theorem exec_curEmpty_eq_next {s u : State} (h : exec .curEmpty s = .next u) :
    s.nextBusy = true ∧ s.rxq = [] ∧ u = s.emptyPoll := by
  change execCurEmpty s = .next u at h
  unfold execCurEmpty at h
  split at h
  next hcontext =>
    obtain ⟨hb, hq⟩ := Bool.and_eq_true_iff.1 hcontext
    exact ⟨hb, List.isEmpty_iff.1 hq, (Host.Outcome.next.inj h).symm⟩
  next => cases h

theorem emptyPoll_eq (s : State) :
    s.emptyPoll = { s with retry := s.retry + 1 } ∨ s.emptyPoll = finishSpec s .timeout SENTINEL := by
  by_cases h : s.retry + 1 = s.cfg.retryBudget
  · exact .inr (emptyPoll_timesOut h)
  · exact .inl (emptyPoll_counts h)

/-! ## The dispatcher -/

/-- It writes the dispatch fields and the events. -/
theorem typeDecoded_frame (s : State) (t : Byte) :
    ∃ r m h c a d, s.typeDecoded t =
      { s with rxState := r, msgOpen := m, curHandler := h, curType := c, afterReturn := a, disp := d } := by
  obtain ⟨h, -, hu⟩ | ⟨-, hu⟩ := typeDecoded_eq s t
  · exact ⟨_, _, _, _, _, _, hu⟩
  · exact ⟨_, _, _, _, _, _, hu⟩

end Sys2Proof.Machine
end

section
/-! PROOFS. The obligations on what each row leaves unchanged. -/

namespace Sys2Proof.Machine

/-- Settles O55: a row that answers did RxRead and its effect, which writes the fields it names. -/
theorem engineTokensFrame : Obligations.EngineTokensFrame := by
  unfold Obligations.EngineTokensFrame
  intro s u i h
  refine ⟨fun hi => ?control, fun hi => ?type⟩
  case control =>
    obtain rfl | rfl | rfl | rfl | rfl | rfl | rfl | ⟨c, rfl | rfl | rfl⟩ := hi
    all_goals
      obtain ⟨-, rfl⟩ := exec_token_eq_next rfl h
      rfl
  case type =>
    obtain rfl | ⟨t, rfl⟩ := hi
    · obtain ⟨-, hu⟩ := exec_token_eq_next rfl h
      obtain ⟨_, _, _, _, _, _, hframe⟩ := typeDecoded_frame (s.rxRead.setEsc false) s.cfg.esc
      rw [hu.trans hframe]
      rfl
    · obtain ⟨-, hu⟩ := exec_token_eq_next rfl h
      obtain ⟨_, _, _, _, _, _, hframe⟩ := typeDecoded_frame s.rxRead t
      rw [hu.trans hframe]
      rfl

/-- Settles O56: a poll's row did RxRead and its effect, and a command waited or had its effect. -/
theorem cursorFrame : Obligations.CursorFrame := by
  unfold Obligations.CursorFrame
  intro s u i h
  refine ⟨fun hi => ?poll, ?hasNext, ?next, ?ret⟩
  case poll =>
    obtain rfl | rfl | rfl | rfl | rfl | ⟨c, rfl | rfl⟩ := hi
    case inr.inr.inr.inr.inl =>
      obtain ⟨-, hq, rfl⟩ := exec_curEmpty_eq_next h
      have hkeep : s = { s with rxq := s.rxq.tail } := by rw [hq, List.tail_nil, ← hq]
      obtain hu | hu := emptyPoll_eq s
      · rw [hu]
        exact congrArg (fun v : State => { v with retry := s.retry + 1 }) hkeep
      · rw [hu]
        exact congrArg (fun v => finishSpec v .timeout SENTINEL) hkeep
    all_goals
      obtain ⟨-, rfl⟩ := exec_token_eq_next rfl h
      rfl
  case hasNext =>
    rintro rfl
    obtain ⟨-, rfl⟩ | ⟨-, rfl⟩ := exec_command_eq_next rfl h
    · rfl
    cases command_effect s (i := .hasNext) rfl with
    | send hi _ => cases hi
    | drains _ _ _ _ hu | answers _ _ hu => rw [hu]
  case next =>
    rintro rfl
    obtain ⟨-, rfl⟩ | ⟨-, rfl⟩ := exec_command_eq_next rfl h
    · rfl
    cases command_effect s (i := .next) rfl with
    | send hi _ => cases hi
    | starts _ _ _ hu | answers _ _ hu => rw [hu]
  case ret =>
    rintro rfl
    obtain ⟨-, rfl⟩ | ⟨-, rfl⟩ := exec_command_eq_next rfl h
    · rfl
    cases command_effect s (i := .ret) rfl with
    | send hi _ => cases hi
    | returns _ _ hu | answers _ _ hu => rw [hu]

/-- Settles O57: a command waited or had its effect; what the encoder adds to the log is one of its writes. -/
theorem sendAndRegisterFrame : Obligations.SendAndRegisterFrame := by
  unfold Obligations.SendAndRegisterFrame
  intro s u i h
  refine ⟨fun hi => ?encoder, fun hi => ?guard, ?register, ?reserved⟩
  case encoder =>
    obtain ⟨-, rfl⟩ | ⟨-, rfl⟩ := exec_command_eq_next (isCommand_of_isEncoderCommand hi) h
    · exact ⟨⟨[], (List.append_nil _).symm⟩, rfl⟩
    · obtain ⟨bs, hl, -⟩ := (command_txMove s hi).wholeTokens
      obtain ⟨_, _, _, _, -, hu⟩ := sendFrame_command s hi
      exact ⟨⟨bs, hl⟩, by rw [hu]⟩
  case guard =>
    have hcommand : isCommand i = true := by
      obtain ⟨t, rfl | ⟨_, rfl⟩ | rfl | rfl⟩ := hi <;> rfl
    obtain ⟨-, rfl⟩ | ⟨-, rfl⟩ := exec_command_eq_next hcommand h
    · rfl
    · exact txOpen_command hi
  case register =>
    rintro t hid rfl
    obtain ⟨-, rfl⟩ | ⟨-, rfl⟩ := exec_command_eq_next rfl h
    · exact ⟨rfl, fun _ _ => rfl⟩
    cases command_effect s (i := .register t hid) rfl with
    | send hi _ => cases hi
    | answers _ _ hu =>
      rw [hu]
      exact ⟨rfl, fun _ _ => rfl⟩
    | registers _ _ hu =>
      rw [hu]
      exact ⟨rfl, fun n hn => List.getElem?_set_ne hn.symm⟩
  case reserved =>
    rintro op rfl
    obtain ⟨-, rfl⟩ | ⟨-, rfl⟩ := exec_command_eq_next rfl h
    · rfl
    cases command_effect s (i := .reserved op) rfl with
    | send hi _ => cases hi
    | answers _ _ hu => rw [hu]

end Sys2Proof.Machine
end

section
/-! PROOFS. No instruction but the encoder's reads or writes the send half (R64): each commutes with replacing it. -/

namespace Sys2Proof.Machine

section SendHalf

variable (s r : State)

/-! ## The operations of the receive half -/

theorem typeDecoded_withSend (t : Byte) : (s.withSend r).typeDecoded t = (s.typeDecoded t).withSend r := by
  have hl : (s.withSend r).lookup t = s.lookup t := lookup_congr rfl rfl t
  cases h : s.lookup t with
  | some x => rw [typeDecoded_hit h, typeDecoded_hit (hl.trans h)]; rfl
  | none => rw [typeDecoded_miss h, typeDecoded_miss (hl.trans h)]; rfl

theorem emptyPoll_withSend : (s.withSend r).emptyPoll = s.emptyPoll.withSend r := by
  by_cases h : s.retry + 1 = s.cfg.retryBudget
  · rw [emptyPoll_timesOut h, emptyPoll_timesOut (by exact h)]; rfl
  · rw [emptyPoll_counts h, emptyPoll_counts (by exact h)]; rfl

variable {s} in
theorem Pass.withSend {v : State} (h : Pass s v) : Pass (s.withSend r) (v.withSend r) := by
  cases h with
  | esc hm he hq => exact .esc hm he hq
  | stop hm he hq hlit => exact .stop hm he hq hlit
  | start hm he hq hlit => exact .start hm he hq hlit
  | malformed hm he hq hb => exact .malformed hm he hq hb

variable {s} in
theorem Answer.withSend {st : Status} {d : Byte} (h : Answer s st d) : Answer (s.withSend r) st d := by
  cases h with
  | closed hm => exact .closed hm
  | empty hm hq => exact .empty hm hq
  | ordinary hm he hq hb => exact .ordinary hm he hq hb
  | literal hm he hq => exact .literal hm he hq

theorem hasNext_withSend : (s.withSend r).hasNext = s.hasNext.withSend r := by
  by_cases hr : s.rxState = .dispatching
  · obtain ⟨v, st, d, hrun, hanswer, hloop⟩ := hasNextLoop_run s
    have hrun' : Relation.ReflTransGen Pass (s.withSend r) (v.withSend r) :=
      hrun.lift (fun u => u.withSend r) fun _ _ hpass => hpass.withSend r
    rw [hasNext_dispatching hr rfl, hloop, hasNext_dispatching (by exact hr) rfl, hasNextLoop_of_passes hrun',
      hasNextLoop_of_answer (hanswer.withSend r)]
    rfl
  · rw [hasNext_outside hr, hasNext_outside (by exact hr)]; rfl

theorem nextStart_withSend : (s.withSend r).nextStart = s.nextStart.withSend r := by
  by_cases hr : s.rxState = .dispatching
  · cases hm : s.msgOpen with
    | false => rw [nextStart_closed hr hm, nextStart_closed (by exact hr) (by exact hm)]; rfl
    | true => rw [nextStart_open hr hm, nextStart_open (by exact hr) (by exact hm)]; rfl
  · rw [nextStart_outside hr, nextStart_outside (by exact hr)]; rfl

theorem handlerReturn_withSend : (s.withSend r).handlerReturn = s.handlerReturn.withSend r := by
  by_cases hr : s.rxState = .dispatching
  · rw [handlerReturn_dispatching hr, handlerReturn_dispatching (by exact hr)]; rfl
  · rw [handlerReturn_outside hr, handlerReturn_outside (by exact hr)]; rfl

theorem registerType_withSend (t : Byte) (h : HandlerId) :
    (s.withSend r).registerType t h = (s.registerType t h).withSend r := by
  by_cases ht : t.toNat < s.cfg.nTypes
  · rw [registerType_inRange h ht, registerType_inRange h (by exact ht)]; rfl
  · have hout := Nat.not_lt.1 ht
    rw [registerType_outOfRange h hout, registerType_outOfRange (s := s.withSend r) h hout]; rfl

theorem interruptGather_withSend : (s.withSend r).interruptGather = s.interruptGather.withSend r := by
  cases h : s.collect with
  | none => rw [interruptGather_none h, interruptGather_none (by exact h)]
  | some c => rw [interruptGather_some h, interruptGather_some (by exact h)]; rfl

theorem tokenEffect_withSend (cfg : Config) (i : Instr) :
    tokenEffect cfg i (s.withSend r) = (tokenEffect cfg i s).withSend r := by
  cases i with
  | rxAwaitType t => exact typeDecoded_withSend s r t
  | rxAwaitEscLiteral => exact typeDecoded_withSend (s.setEsc false) r cfg.esc
  | _ => rfl

/-! ## The guards -/

variable {r} in
/-- The port reads no field of the send half, so a command commutes with its replacement when its effect does. -/
theorem onCommand_withSend (effect : State → State)
    (heffect : ∀ u : State, effect (u.withSend r) = (effect u).withSend r) :
    onCommand (s.withSend r) effect = mapNext (fun u => u.withSend r) (onCommand s effect) := by
  cases hb : s.nextBusy with
  | true => rw [onCommand_busy effect hb, onCommand_busy effect (by exact hb)]; rfl
  | false =>
    rw [onCommand_ready effect hb, onCommand_ready effect (by exact hb), interruptGather_withSend, heffect]; rfl

variable {r} in
/-- A wire row's context reads no field of the send half either. -/
theorem onToken_withSend (rd : Reader) (e : Bool) (b : Byte) (ok : Bool) (effect : State → State)
    (heffect : ∀ u : State, effect (u.withSend r) = (effect u).withSend r) :
    onToken rd e b ok (s.withSend r) effect = mapNext (fun u => u.withSend r) (onToken rd e b ok s effect) := by
  have hreads : (s.withSend r).reads rd = s.reads rd := by cases rd <;> rfl
  unfold onToken
  rw [hreads]
  by_cases h : (s.reads rd && s.escPending == e && s.rxq.head? == some b && ok) = true
  · rw [if_pos h, if_pos (by exact h)]
    exact congrArg Host.Outcome.next (heffect s.rxRead)
  · rw [if_neg h, if_neg (by exact h)]
    rfl

theorem exec_token_withSend {i : Instr} {rd : Reader} {e : Bool} {b : Byte} (hi : encode s.cfg i = .byte rd e b) :
    exec i (s.withSend r) = mapNext (fun u => u.withSend r) (exec i s) := by
  rw [exec_token hi, exec_token (s := s.withSend r) hi]
  exact onToken_withSend s rd e b _ _ fun u => tokenEffect_withSend u r s.cfg i

theorem exec_curEmpty_withSend :
    exec .curEmpty (s.withSend r) = mapNext (fun u => u.withSend r) (exec .curEmpty s) := by
  change execCurEmpty _ = mapNext _ (execCurEmpty s)
  unfold execCurEmpty
  by_cases h : (s.reads .poll && s.rxq.isEmpty) = true
  · rw [if_pos h, if_pos (by exact h), emptyPoll_withSend]; rfl
  · rw [if_neg h, if_neg (by exact h)]; rfl

end SendHalf

/-- Settles O41: a wire row's guard and a command's port commute with replacing the send half, and so does each effect. -/
theorem receiveHalfIgnoresTheEncoder : Obligations.ReceiveHalfIgnoresTheEncoder := by
  unfold Obligations.ReceiveHalfIgnoresTheEncoder
  intro s r i hi
  cases i with
  | beginSend _ | sendByte _ | endSend | send _ | sendBuf _ _ | sendBufData _ => cases hi
  | register t h => exact onCommand_withSend s (fun u => u.registerType t h) fun u => registerType_withSend u r t h
  | hasNext => exact onCommand_withSend s State.hasNext fun u => hasNext_withSend u r
  | next => exact onCommand_withSend s State.nextStart fun u => nextStart_withSend u r
  | ret => exact onCommand_withSend s State.handlerReturn fun u => handlerReturn_withSend u r
  | reserved _ => exact onCommand_withSend s (fun u => u.respondCommand .illegal) fun _ => rfl
  | curEmpty => exact exec_curEmpty_withSend s r
  | _ => exact exec_token_withSend s r rfl

end Sys2Proof.Machine
end

section
/-! PROOFS. How long a successful send is (R185), and that a send in the wrong state of the guard fails and writes nothing (R187). -/

namespace Sys2Proof.Machine

theorem frame_length (cfg : Config) (t : Byte) (bs : List Byte) :
    (frame cfg t bs).length = 4 + (enc cfg t).length + (bs.map fun x => (enc cfg x).length).sum := by
  rw [frame_eq, List.length_append, List.length_append, openBytes_length, List.length_flatMap]
  simp only [closeBytes, List.length_cons, List.length_nil]
  omega

theorem sendByte_length {s : State} (b : Byte) (h : s.txOpen = true) :
    (s.sendByte b).txlog.length = s.txlog.length + if b = s.cfg.esc then 2 else 1 := by
  rw [sendByte_of_txOpen h, List.length_append, enc_length]

theorem sendWhole_length {s : State} (t : Byte) (bs : List Byte) (h : s.txOpen = false) :
    (s.sendWhole t bs).txlog.length =
      s.txlog.length + 4 + (enc s.cfg t).length + (bs.map fun x => (enc s.cfg x).length).sum := by
  rw [sendWhole_of_not_txOpen h, List.length_append, frame_length]
  omega

theorem sendBufBeat_last_eq_sendWhole {s : State} {t : Byte} {bs : List Byte} (hc : s.collect = some ⟨t, 1, bs⟩)
    (b : Byte) : s.sendBufBeat b = ({ s with collect := none } : State).sendWhole t (bs ++ [b]) :=
  (sendBufBeat_last hc b).trans (sendWhole_eq_sendBufSpec _ t (bs ++ [b])).symm

theorem sendBufHeader_zero_eq_sendWhole (s : State) (t : Byte) : s.sendBufHeader t 0#16 = s.sendWhole t [] := if_pos rfl

/-- Settles O36: a taken send appends what its operation writes; an interrupted gather leaves log and configuration. -/
theorem escapingLengths : Obligations.EscapingLengths := by
  unfold Obligations.EscapingLengths
  intro s u hb
  obtain ⟨r, hv⟩ := interruptGather_fields s
  refine ⟨fun b hopen h => ?sendByte, fun t bs b hclosed hc h => ?lastBeat, fun t hclosed h => ?emptyBuf⟩
  case sendByte =>
    have run : exec (.sendByte b) s = .next (s.interruptGather.sendByte b) := exec_command_free rfl hb
    obtain rfl := Host.Outcome.next.inj (run.symm.trans h)
    rw [sendByte_length b ((txOpen_interruptGather s).trans hopen), hv]
  case lastBeat =>
    have run : exec (.sendBufData b) s = .next (s.sendBufBeat b) := exec_command_free rfl hb
    obtain rfl := Host.Outcome.next.inj (run.symm.trans h)
    rw [sendBufBeat_last_eq_sendWhole hc, sendWhole_length (s := { s with collect := none }) t (bs ++ [b]) hclosed]
  case emptyBuf =>
    have run : exec (.sendBuf t 0#16) s = .next (s.interruptGather.sendBufHeader t 0#16) := exec_command_free rfl hb
    obtain rfl := Host.Outcome.next.inj (run.symm.trans h)
    rw [sendBufHeader_zero_eq_sendWhole, sendWhole_length t [] ((txOpen_interruptGather s).trans hclosed), hv]
    rfl

/-- The answer of a send that the guard `g` refuses: nothing is written, and the guard's own status comes last. -/
def GuardFailure (s u : State) (g : Bool) : Prop :=
  ∃ v : State, v.txlog = s.txlog ∧ v.txOpen = s.txOpen ∧
    u = { v with rsp := v.rsp ++ [⟨false, if g then .sendOpen else .noSend, 0x00#8⟩] }

theorem GuardFailure.of_interruptGather {s u : State} {g : Bool} (h : GuardFailure s.interruptGather u g) :
    GuardFailure s u g := by
  obtain ⟨v, hl, ho, hu⟩ := h
  obtain ⟨r, hv⟩ := interruptGather_fields s
  exact ⟨v, by rw [hl, hv], by rw [ho, hv], hu⟩

theorem guardFailure_beginSend {s : State} (h : s.txOpen = true) (t : Byte) : GuardFailure s (s.beginSend t) true :=
  ⟨s, rfl, rfl, beginSend_of_txOpen h t⟩

theorem guardFailure_sendWhole {s : State} (h : s.txOpen = true) (t : Byte) (bs : List Byte) :
    GuardFailure s (s.sendWhole t bs) true := ⟨s, rfl, rfl, sendWhole_of_txOpen h t bs⟩

theorem guardFailure_sendByte {s : State} (h : s.txOpen = false) (b : Byte) : GuardFailure s (s.sendByte b) false :=
  ⟨s, rfl, rfl, sendByte_of_not_txOpen h b⟩

theorem guardFailure_endSend {s : State} (h : s.txOpen = false) : GuardFailure s s.endSend false :=
  ⟨s, rfl, rfl, endSend_of_not_txOpen h⟩

theorem guardFailure_emptySendBuf {s : State} (h : s.txOpen = true) (t : Byte) :
    GuardFailure s (s.sendBufHeader t 0#16) true := by
  rw [sendBufHeader_zero_eq_sendWhole]
  exact guardFailure_sendWhole h t []

theorem guardFailure_lastBeat {s : State} {t : Byte} {bs : List Byte} (h : s.txOpen = true)
    (hc : s.collect = some ⟨t, 1, bs⟩) (b : Byte) : GuardFailure s (s.sendBufBeat b) true := by
  obtain ⟨v, hl, ho, hu⟩ := guardFailure_sendWhole (s := { s with collect := none }) h t (bs ++ [b])
  exact ⟨v, hl, ho, (sendBufBeat_last_eq_sendWhole hc b).trans hu⟩

/-- A send in the wrong state of the guard is refused by it, whatever gather it interrupts or completes. -/
theorem command_guardFailure {s : State} {i : Instr}
    (hi : s.txOpen = true ∧
        ((∃ t, i = .beginSend t) ∨ (∃ t, i = .send t) ∨ (∃ t, i = .sendBuf t 0#16) ∨
          (∃ b t bs, i = .sendBufData b ∧ s.collect = some ⟨t, 1, bs⟩)) ∨
      s.txOpen = false ∧ ((∃ b, i = .sendByte b) ∨ i = .endSend)) :
    isCommand i = true ∧ GuardFailure s (s.command i) s.txOpen := by
  have guard := txOpen_interruptGather s
  obtain ⟨hopen, hi⟩ | ⟨hclosed, hi⟩ := hi
  case inl =>
    rw [hopen] at guard ⊢
    obtain ⟨t, rfl⟩ | ⟨t, rfl⟩ | ⟨t, rfl⟩ | ⟨b, t, bs, rfl, hc⟩ := hi
    · exact ⟨rfl, (guardFailure_beginSend guard t).of_interruptGather⟩
    · exact ⟨rfl, (guardFailure_sendWhole guard t []).of_interruptGather⟩
    · exact ⟨rfl, (guardFailure_emptySendBuf guard t).of_interruptGather⟩
    · exact ⟨rfl, guardFailure_lastBeat hopen hc b⟩
  case inr =>
    rw [hclosed] at guard ⊢
    obtain ⟨b, rfl⟩ | rfl := hi
    · exact ⟨rfl, (guardFailure_sendByte guard b).of_interruptGather⟩
    · exact ⟨rfl, (guardFailure_endSend guard).of_interruptGather⟩

/-- Settles O37: each send that the guard refuses answers its refusal. -/
theorem sendGuardFailuresWriteNothing : Obligations.SendGuardFailuresWriteNothing := by
  unfold Obligations.SendGuardFailuresWriteNothing
  intro s i hb hi
  obtain ⟨hcommand, v, hl, ho, hu⟩ := command_guardFailure hi
  refine ⟨_, ⟨false, if s.txOpen then .sendOpen else .noSend, 0x00#8⟩, exec_command_free hcommand hb, ?_⟩
  rw [hu]
  exact ⟨hl, ho, List.getLast?_concat, rfl, rfl, rfl⟩

end Sys2Proof.Machine
end

section
/-! PROOFS. The responses (R92): one for every completed command, none for one that is still in progress. -/

namespace Sys2Proof.Machine

theorem answersCursor_of_ok {s u : State} {st : Status} {d : Byte} (hst : st = .ok ∨ st = .closed ∨ st = .timeout)
    (hu : u.rsp = s.rsp ++ [⟨true, st, d⟩]) : AnswersCursor s u ⟨true, st, d⟩ := ⟨hu, iff_of_true rfl hst⟩

theorem answersCursor_notOpen {s u : State} {d : Byte} (hu : u.rsp = s.rsp ++ [⟨false, .notOpen, d⟩]) :
    AnswersCursor s u ⟨false, .notOpen, d⟩ := ⟨hu, by simp⟩

theorem answersCommand_of_status {s u : State} (st : Status) (hu : u.rsp = s.rsp ++ [⟨okCommand st, st, 0x00#8⟩]) :
    AnswersCommand s u := ⟨_, hu, rfl, beq_iff_eq⟩

/-! ## What each command answers -/

theorem hasNext_answers (s : State) : ∃ r, AnswersCursor s s.hasNext r ∧ (r.data = 0x00#8 ∨ r.data = 0x01#8) := by
  obtain ⟨-, hu⟩ | ⟨-, hu⟩ := hasNext_eq s
  · exact ⟨_, answersCursor_notOpen (d := 0x00#8) (by rw [hu]), .inl rfl⟩
  · obtain ⟨v, st, d, hrun, hanswer, hloop⟩ := hasNextLoop_run s
    obtain ⟨_, _, _, _, _, -, -, rfl⟩ := passes_frame hrun
    refine ⟨⟨true, st, d⟩, answersCursor_of_ok ?_ (by rw [hu, hloop]), ?_⟩
    · cases hanswer with
      | closed => exact .inr (.inl rfl)
      | empty | ordinary | literal => exact .inl rfl
    · cases hanswer with
      | closed | empty => exact .inl rfl
      | ordinary | literal => exact .inr rfl

theorem nextStart_answers {s : State} (hb : s.nextBusy = false) :
    s.nextStart.nextBusy = true ∧ s.nextStart.rsp = s.rsp ∨
      s.nextStart.nextBusy = false ∧ ∃ r, AnswersCursor s s.nextStart r ∧ r.data = SENTINEL := by
  obtain ⟨st, rfl | rfl, hu⟩ | ⟨-, -, hu⟩ := nextStart_eq s
  · exact .inr ⟨by rw [hu]; exact hb, _, answersCursor_notOpen (by rw [hu]; rfl), rfl⟩
  · exact .inr ⟨by rw [hu]; exact hb, _, answersCursor_of_ok (.inr (.inl rfl)) (by rw [hu]; rfl), rfl⟩
  · exact .inl ⟨by rw [hu], by rw [hu]⟩

theorem handlerReturn_answers (s : State) : AnswersCommand s s.handlerReturn := by
  obtain ⟨-, hu⟩ | ⟨-, hu⟩ := handlerReturn_eq s
  · exact answersCommand_of_status .notOpen (by rw [hu]; rfl)
  · exact answersCommand_of_status .ok (by rw [hu]; rfl)

theorem beginSend_answers (s : State) (t : Byte) : AnswersCommand s (s.beginSend t) := by
  cases h : s.txOpen with
  | false => exact answersCommand_of_status .ok (by rw [beginSend_of_not_txOpen h]; rfl)
  | true => exact answersCommand_of_status .sendOpen (by rw [beginSend_of_txOpen h]; rfl)

theorem sendByte_answers (s : State) (b : Byte) : AnswersCommand s (s.sendByte b) := by
  cases h : s.txOpen with
  | false => exact answersCommand_of_status .noSend (by rw [sendByte_of_not_txOpen h]; rfl)
  | true => exact answersCommand_of_status .ok (by rw [sendByte_of_txOpen h]; rfl)

theorem endSend_answers (s : State) : AnswersCommand s s.endSend := by
  cases h : s.txOpen with
  | false => exact answersCommand_of_status .noSend (by rw [endSend_of_not_txOpen h]; rfl)
  | true => exact answersCommand_of_status .ok (by rw [endSend_of_txOpen h]; rfl)

theorem sendWhole_answers (s : State) (t : Byte) (bs : List Byte) : AnswersCommand s (s.sendWhole t bs) := by
  cases h : s.txOpen with
  | false => exact answersCommand_of_status .ok (by rw [sendWhole_of_not_txOpen h]; rfl)
  | true => exact answersCommand_of_status .sendOpen (by rw [sendWhole_of_txOpen h]; rfl)

theorem registerType_answers (s : State) (t : Byte) (h : HandlerId) : AnswersCommand s (s.registerType t h) := by
  obtain hu | ⟨-, hu⟩ := registerType_eq s t h
  · exact answersCommand_of_status .range (by rw [hu]; rfl)
  · exact answersCommand_of_status .ok (by rw [hu]; rfl)

theorem respondIllegal_answers (s : State) : AnswersCommand s (s.respondCommand .illegal) :=
  answersCommand_of_status .illegal rfl

theorem emptySendBuf_answers (s : State) (t : Byte) : AnswersCommand s (s.sendBufHeader t 0#16) := by
  rw [sendBufHeader_zero_eq_sendWhole]
  exact sendWhole_answers s t []

theorem strayBeat_answers {s : State} (hc : s.collect = none) (b : Byte) : AnswersCommand s (s.sendBufBeat b) := by
  rw [sendBufBeat_stray hc]
  exact respondIllegal_answers s

theorem AnswersCommand.of_interruptGather {s u : State} (hc : s.collect = none)
    (h : AnswersCommand s.interruptGather u) : AnswersCommand s u := by
  rwa [interruptGather_none hc] at h

/-- With no gather open, every command that is neither a cursor command nor a SEND_BUF header with bytes to come answers at once. -/
theorem command_answers {s : State} {i : Instr} (hc : s.collect = none)
    (hi : i = .ret ∨ i = .endSend ∨ (∃ t, i = .beginSend t) ∨ (∃ b, i = .sendByte b) ∨ (∃ t, i = .send t) ∨
      (∃ t, i = .sendBuf t 0#16) ∨ (∃ b, i = .sendBufData b) ∨ (∃ t h, i = .register t h) ∨ (∃ op, i = .reserved op)) :
    isCommand i = true ∧ AnswersCommand s (s.command i) := by
  obtain rfl | rfl | ⟨t, rfl⟩ | ⟨b, rfl⟩ | ⟨t, rfl⟩ | ⟨t, rfl⟩ | ⟨b, rfl⟩ | ⟨t, h, rfl⟩ | ⟨op, rfl⟩ := hi
  · exact ⟨rfl, (handlerReturn_answers _).of_interruptGather hc⟩
  · exact ⟨rfl, (endSend_answers _).of_interruptGather hc⟩
  · exact ⟨rfl, (beginSend_answers _ t).of_interruptGather hc⟩
  · exact ⟨rfl, (sendByte_answers _ b).of_interruptGather hc⟩
  · exact ⟨rfl, (sendWhole_answers _ t []).of_interruptGather hc⟩
  · exact ⟨rfl, (emptySendBuf_answers _ t).of_interruptGather hc⟩
  · exact ⟨rfl, strayBeat_answers hc b⟩
  · exact ⟨rfl, (registerType_answers _ t h).of_interruptGather hc⟩
  · exact ⟨rfl, (respondIllegal_answers _).of_interruptGather hc⟩

/-- One response was added, or none and the command is still in progress, be it a NEXT or a gather. -/
def AnswersOrWaits (s u : State) : Prop :=
  ∃ own, u.rsp = s.rsp ++ own ∧ (own.length = 1 ∨ own = [] ∧ (u.nextBusy = true ∨ u.collect ≠ none))

theorem AnswersCommand.answersOrWaits {s u : State} (h : AnswersCommand s u) : AnswersOrWaits s u := by
  obtain ⟨r, hr, -⟩ := h
  exact ⟨[r], hr, .inl rfl⟩

theorem AnswersOrWaits.of_interruptGather {s u : State} (hc : s.collect = none)
    (h : AnswersOrWaits s.interruptGather u) : AnswersOrWaits s u := by
  rwa [interruptGather_none hc] at h

theorem hasNext_answersOrWaits (s : State) : AnswersOrWaits s s.hasNext := by
  obtain ⟨r, ⟨hr, -⟩, -⟩ := hasNext_answers s
  exact ⟨[r], hr, .inl rfl⟩

theorem nextStart_answersOrWaits {s : State} (hb : s.nextBusy = false) : AnswersOrWaits s s.nextStart := by
  obtain ⟨hbusy, hr⟩ | ⟨-, r, ⟨hr, -⟩, -⟩ := nextStart_answers hb
  · exact ⟨[], by rw [hr, List.append_nil], .inr ⟨rfl, .inl hbusy⟩⟩
  · exact ⟨[r], hr, .inl rfl⟩

theorem sendBufHeader_answersOrWaits (s : State) (t : Byte) (len : BitVec 16) :
    AnswersOrWaits s (s.sendBufHeader t len) := by
  obtain ⟨-, hu⟩ | ⟨-, hu⟩ := sendBufHeader_eq s t len
  · exact hu ▸ (sendWhole_answers s t []).answersOrWaits
  · rw [hu]
    exact ⟨[], (List.append_nil _).symm, .inr ⟨rfl, .inr nofun⟩⟩

/-- A taken command with no gather open answers once, or is in progress. -/
theorem command_answersOrWaits {s : State} {i : Instr} (hi : isCommand i = true) (hb : s.nextBusy = false)
    (hc : s.collect = none) : AnswersOrWaits s (s.command i) := by
  cases i with
  | hasNext => exact (hasNext_answersOrWaits _).of_interruptGather hc
  | next =>
    have hfree : s.interruptGather.nextBusy = false := by rw [interruptGather_none hc, hb]
    exact (nextStart_answersOrWaits hfree).of_interruptGather hc
  | sendBuf t len => exact (sendBufHeader_answersOrWaits _ t len).of_interruptGather hc
  | beginSend _ | sendByte _ | endSend | send _ | sendBufData _ | register _ _ | ret | reserved _ =>
    exact (command_answers hc (by simp)).2.answersOrWaits
  | _ => cases hi

/-- A poll's row leaves the NEXT in progress, or finishes it with one response; only a delivered byte is data (R149 to R156). -/
theorem pollRow_answers {s u : State} {i : Instr} (hi : isPollRow i = true) (h : exec i s = .next u) :
    u.nextBusy = true ∧ u.rsp = s.rsp ∨
      u.nextBusy = false ∧ ∃ r, AnswersCursor s u r ∧ (r.status ≠ .ok → r.data = SENTINEL) ∧
        (r.status = .ok → i = .curOrd r.data ∨ i = .curEscLiteral ∧ r.data = s.cfg.esc) := by
  cases i with
  | curEsc | curEscOther _ =>
    obtain ⟨hb, rfl⟩ := exec_token_eq_next rfl h
    exact .inl ⟨hb, rfl⟩
  | curOrd d =>
    obtain ⟨-, rfl⟩ := exec_token_eq_next rfl h
    exact .inr ⟨rfl, ⟨true, .ok, d⟩, answersCursor_of_ok (.inl rfl) rfl, fun hne => absurd rfl hne, fun _ => .inl rfl⟩
  | curEscLiteral =>
    obtain ⟨-, rfl⟩ := exec_token_eq_next rfl h
    exact .inr ⟨rfl, ⟨true, .ok, s.cfg.esc⟩, answersCursor_of_ok (.inl rfl) rfl, fun hne => absurd rfl hne,
      fun _ => .inr ⟨rfl, rfl⟩⟩
  | curEscStart | curEscEnd =>
    obtain ⟨-, rfl⟩ := exec_token_eq_next rfl h
    exact .inr ⟨rfl, ⟨true, .closed, SENTINEL⟩, answersCursor_of_ok (.inr (.inl rfl)) rfl, fun _ => rfl, nofun⟩
  | curEmpty =>
    obtain ⟨hb, -, rfl⟩ := exec_curEmpty_eq_next h
    obtain hu | hu := emptyPoll_eq s
    · rw [hu]
      exact .inl ⟨hb, rfl⟩
    · rw [hu]
      exact .inr ⟨rfl, ⟨true, .timeout, SENTINEL⟩, answersCursor_of_ok (.inr (.inr rfl)) rfl, fun _ => rfl, nofun⟩
  | _ => cases hi

/-- Settles O47: the port's rule for each kind of command, with a gather, in one and through one, and the rows of a poll. -/
theorem commandsAnswerOneResponse : Obligations.CommandsAnswerOneResponse := by
  unfold Obligations.CommandsAnswerOneResponse
  refine ⟨fun s u i hb hc h => ?noGather, fun s u c b hb hc h => ?beat, fun s u c i hb hc hi hdata h => ?interrupt,
    fun s u i hi h => pollRow_answers hi h, rfl⟩
  case noGather =>
    have taken (hi : isCommand i = true) : u = s.command i :=
      Host.Outcome.next.inj (h.symm.trans (exec_command_free hi hb))
    have hv := interruptGather_none hc
    refine ⟨?_, ?_, fun hi => ?_, ?_⟩
    · rintro rfl
      have hu : u = s.hasNext := (taken rfl).trans (congrArg State.hasNext hv)
      exact hu ▸ hasNext_answers s
    · rintro rfl
      have hu : u = s.nextStart := (taken rfl).trans (congrArg State.nextStart hv)
      exact hu ▸ nextStart_answers hb
    · obtain ⟨hcommand, hanswer⟩ := command_answers hc hi
      exact taken hcommand ▸ hanswer
    · rintro t len rfl hlen
      have hu : u = s.sendBufHeader t len := (taken rfl).trans (congrArg (fun v => v.sendBufHeader t len) hv)
      rw [hu, sendBufHeader_of_ne_zero s t hlen]
      exact ⟨rfl, nofun⟩
  case beat =>
    have run : exec (.sendBufData b) s = .next (s.sendBufBeat b) := exec_command_free rfl hb
    obtain rfl := Host.Outcome.next.inj (run.symm.trans h)
    obtain ⟨hnone, -⟩ | ⟨g, hg, hcase⟩ := sendBufBeat_eq s b
    · exact absurd (hnone.symm.trans hc) nofun
    obtain rfl := Option.some.inj (hg.symm.trans hc)
    obtain ⟨hlast, hu⟩ | ⟨hmore, hu⟩ := hcase
    · rw [hu]
      exact ⟨fun _ => sendWhole_answers { s with collect := none } g.type (g.bytes ++ [b]), fun h2 => by omega⟩
    · rw [hu]
      exact ⟨fun h1 => by omega, fun _ => ⟨rfl, nofun⟩⟩
  case interrupt =>
    obtain ⟨-, -, -, interrupts⟩ := sendBufGathersItsBeats s hb
    rw [interrupts c i hc hi hdata] at h
    have run := exec_command_free (s := { s with collect := none, rsp := s.rsp ++ [⟨false, .illegal, 0x00#8⟩] }) hi hb
    obtain rfl := Host.Outcome.next.inj (run.symm.trans h)
    obtain ⟨own, hown, hcount⟩ := command_answersOrWaits
      (s := { s with collect := none, rsp := s.rsp ++ [⟨false, .illegal, 0x00#8⟩] }) hi hb rfl
    exact ⟨own, by rw [hown, List.append_assoc]; rfl, hcount⟩

end Sys2Proof.Machine
end

section
/-! PROOFS. The host's words in a schedule: one turn runs one command; the beats of a SEND_BUF gather into one send (R86), the words of a
composition write byte by byte, and both leave the same frame (R94). -/

namespace Sys2Proof.Machine

theorem decodeCommand_commandWord {cfg : Config} {i : Instr} (hi : isCommand i = true) (hwf : i.wf cfg = true) :
    decodeCommand (commandWord cfg i) = i := by
  refine decodeCommand_of_encode (cfg := cfg) ?_ hwf
  cases i with
  | beginSend _ | sendByte _ | endSend | send _ | sendBuf _ _ | sendBufData _ | register _ _ | hasNext | next | ret
  | reserved _ => rfl
  | _ => cases hi

/-- A command writes neither of the model's own lists. -/
theorem sched_command (s : State) {i : Instr} (hi : isCommand i = true) : (s.command i).sched = s.sched := by
  cases command_effect s hi with
  | send _ hu =>
    obtain ⟨_, _, _, _, -, hu⟩ := hu
    rw [hu]
  | registers _ _ hu | drains _ _ _ _ hu | starts _ _ _ hu | returns _ _ hu | answers _ _ hu => rw [hu]

section Turns

variable {s : State} {w : CmdWord} {ws : List CmdWord}

/-- The host's turn at the head of a schedule. -/
theorem drive_host (ms : List Move) (hw : s.cfg.wf = true) (hb : s.nextBusy = false) (hc : s.cmdq = w :: ws) :
    drive (.host :: ms) s = drive ms (({ s with cmdq := ws, sched := ms } : State).command (decodeCommand w)) :=
  drive_cons (step_host_eq_command ms hw hb hc) (sched_command _ (isCommand_decodeCommand w))

/-- The same, with what the word's command makes of the state; `drive` overwrites the schedule that the command carries along. -/
theorem drive_word {i : Instr} {u : State} (ms : List Move) (hw : s.cfg.wf = true) (hb : s.nextBusy = false)
    (hc : s.cmdq = w :: ws) (hi : decodeCommand w = i)
    (hu : ({ s with cmdq := ws, sched := ms } : State).command i = u) : drive (.host :: ms) s = drive ms u := by
  rw [drive_host ms hw hb hc, hi, hu]

/-- With no gather open to interrupt, a command other than SEND_BUF_DATA is its effect alone. -/
theorem command_free {v : State} (effect : State → State) (hc : v.collect = none) :
    effect v.interruptGather = effect v := by
  rw [interruptGather_none hc]

/-! ## The beats of a gather -/

theorem sendWhole_sched (ns : List Move) (t : Byte) (bs : List Byte) :
    ({ s with sched := ns } : State).sendWhole t bs = { s.sendWhole t bs with sched := ns } := by
  by_cases h : s.txOpen = true
  · rw [sendWhole_of_txOpen h, sendWhole_of_txOpen (s := { s with sched := ns }) h]
  · have h : s.txOpen = false := Bool.eq_false_iff.2 h
    rw [sendWhole_of_not_txOpen h, sendWhole_of_not_txOpen (s := { s with sched := ns }) h]

theorem drive_sendWhole (ms ns : List Move) (t : Byte) (bs : List Byte) :
    drive ms (({ s with sched := ns } : State).sendWhole t bs) = drive ms (s.sendWhole t bs) := by
  rw [sendWhole_sched]
  rfl

/-- The beats of an open gather, up to and with its last one, are one send of all its bytes. -/
theorem drive_beats {t : Byte} (b : Byte) (bs done : List Byte) (ms : List Move) (hw : s.cfg.wf = true)
    (hb : s.nextBusy = false) (hg : s.collect = some ⟨t, bs.length + 1, done⟩)
    (hc : s.cmdq = (b :: bs).map (fun b => commandWord s.cfg (.sendBufData b)) ++ ws) :
    drive (List.replicate (bs.length + 1) .host ++ ms) s =
      drive ms (({ s with collect := none, cmdq := ws } : State).sendWhole t (done ++ b :: bs)) := by
  have hi : decodeCommand (commandWord s.cfg (.sendBufData b)) = .sendBufData b := decodeCommand_commandWord rfl rfl
  induction bs generalizing s b done with
  | nil =>
    have hlast := sendBufBeat_last_eq_sendWhole (s := { s with cmdq := ws, sched := ms }) hg b
    refine (drive_word ms hw hb hc hi hlast).trans ?_
    exact drive_sendWhole (s := { s with collect := none, cmdq := ws }) ms ms t (done ++ [b])
  | cons c bs ih =>
    have hmore := sendBufBeat_more (s := { s with
      cmdq := (c :: bs).map (fun b => commandWord s.cfg (.sendBufData b)) ++ ws
      sched := List.replicate (bs.length + 1) .host ++ ms }) hg b
    refine (drive_word _ hw hb hc hi hmore).trans (Eq.trans (ih c (done ++ [b]) ?_ ?_ ?_ ?_ ?_) ?_)
    · exact hw
    · exact hb
    · rfl
    · rfl
    · exact decodeCommand_commandWord rfl rfl
    · rw [List.append_assoc]
      exact drive_sendWhole (s := { s with collect := none, cmdq := ws }) ms _ t (done ++ b :: c :: bs)

/-- The words of SEND_BUF t, ps are one send of the whole frame. -/
theorem drive_sendBuf (t : Byte) (ps : List Byte) (hw : s.cfg.wf = true) (hb : s.nextBusy = false)
    (hg : s.collect = none) (hlen : ps.length ≤ 65535)
    (hc : s.cmdq = commandWord s.cfg (.sendBuf t (BitVec.ofNat 16 ps.length)) ::
      ps.map (fun b => commandWord s.cfg (.sendBufData b))) :
    drive (List.replicate (ps.length + 1) .host) s = drive [] (({ s with cmdq := [] } : State).sendWhole t ps) := by
  have hi : decodeCommand (commandWord s.cfg (.sendBuf t (BitVec.ofNat 16 ps.length))) = _ :=
    decodeCommand_commandWord rfl rfl
  have hcount : (BitVec.ofNat 16 ps.length).toNat = ps.length := by
    rw [BitVec.toNat_ofNat]
    omega
  have header (ws : List CmdWord) (ms : List Move) := command_free (v := { s with cmdq := ws, sched := ms })
    (fun v => v.sendBufHeader t (BitVec.ofNat 16 ps.length)) hg
  cases ps with
  | nil =>
    refine (drive_word [] hw hb hc hi ((header [] []).trans (sendBufHeader_zero_eq_sendWhole _ t))).trans ?_
    exact drive_sendWhole (s := { s with cmdq := [] }) [] [] t []
  | cons b bs =>
    have hne : BitVec.ofNat 16 (b :: bs).length ≠ 0#16 := fun hzero => by
      rw [hzero] at hcount
      cases hcount
    have hgather := (header (List.map (fun b => commandWord s.cfg (.sendBufData b)) (b :: bs))
      (List.replicate (bs.length + 1) .host)).trans (sendBufHeader_of_ne_zero _ t hne)
    rw [hcount] at hgather
    refine (drive_word _ hw hb hc hi hgather).trans ?_
    rw [← List.append_nil (List.replicate _ Move.host)]
    refine Eq.trans (drive_beats (ws := []) (t := t) b bs [] [] ?_ ?_ ?_ ?_) ?_
    · exact hw
    · exact hb
    · rfl
    · exact (List.append_nil _).symm
    · have hsame : ({ s with collect := none, cmdq := [] } : State) = { s with cmdq := [] } := by rw [← hg]
      rw [← hsame]
      exact drive_sendWhole (s := { s with collect := none, cmdq := [] }) [] _ t (b :: bs)

/-! ## The composition -/

theorem drive_beginSend {t : Byte} (ms : List Move) (hw : s.cfg.wf = true) (hb : s.nextBusy = false)
    (hg : s.collect = none) (ho : s.txOpen = false) (hc : s.cmdq = commandWord s.cfg (.beginSend t) :: ws) :
    drive (.host :: ms) s = drive ms
      { s with
        txOpen := true, txlog := s.txlog ++ openBytes s.cfg t, rsp := s.rsp ++ [⟨true, .ok, 0x00#8⟩], cmdq := ws } := by
  have hrun := (command_free (v := { s with cmdq := ws, sched := ms }) (fun v => v.beginSend t) hg).trans
    (beginSend_of_not_txOpen (s := { s with cmdq := ws, sched := ms }) ho t)
  exact (drive_word ms hw hb hc (decodeCommand_commandWord rfl rfl) hrun).trans rfl

theorem drive_sendByte {b : Byte} (ms : List Move) (hw : s.cfg.wf = true) (hb : s.nextBusy = false)
    (hg : s.collect = none) (ho : s.txOpen = true) (hc : s.cmdq = commandWord s.cfg (.sendByte b) :: ws) :
    drive (.host :: ms) s = drive ms
      { s with txlog := s.txlog ++ enc s.cfg b, rsp := s.rsp ++ [⟨true, .ok, 0x00#8⟩], cmdq := ws } := by
  have hrun := (command_free (v := { s with cmdq := ws, sched := ms }) (fun v => v.sendByte b) hg).trans
    (sendByte_of_txOpen (s := { s with cmdq := ws, sched := ms }) ho b)
  exact (drive_word ms hw hb hc (decodeCommand_commandWord rfl rfl) hrun).trans rfl

theorem drive_endSend (ms : List Move) (hw : s.cfg.wf = true) (hb : s.nextBusy = false) (hg : s.collect = none)
    (ho : s.txOpen = true) (hc : s.cmdq = commandWord s.cfg .endSend :: ws) :
    drive (.host :: ms) s = drive ms
      { s with
        txOpen := false, txlog := s.txlog ++ closeBytes s.cfg, rsp := s.rsp ++ [⟨true, .ok, 0x00#8⟩], cmdq := ws } := by
  have hrun := (command_free (v := { s with cmdq := ws, sched := ms }) State.endSend hg).trans
    (endSend_of_txOpen (s := { s with cmdq := ws, sched := ms }) ho)
  exact (drive_word ms hw hb hc (decodeCommand_commandWord rfl rfl) hrun).trans rfl

/-- The SEND_BYTE words inside an open frame write its bytes escaped and answer one OK each. -/
theorem drive_sendBytes (ps : List Byte) (ms : List Move) (hw : s.cfg.wf = true) (hb : s.nextBusy = false)
    (hg : s.collect = none) (ho : s.txOpen = true)
    (hc : s.cmdq = ps.map (fun b => commandWord s.cfg (.sendByte b)) ++ ws) :
    drive (List.replicate ps.length .host ++ ms) s = drive ms
      { s with
        txlog := s.txlog ++ ps.flatMap (enc s.cfg)
        rsp := s.rsp ++ List.replicate ps.length ⟨true, .ok, 0x00#8⟩, cmdq := ws } := by
  induction ps generalizing s with
  | nil =>
    have hkeep : s = { s with cmdq := ws } := by rw [← hc.trans (List.nil_append ws)]
    simp only [List.flatMap_nil, List.append_nil, List.length_nil, List.replicate_zero, List.nil_append]
    exact congrArg _ hkeep
  | cons b bs ih =>
    have hrest := ih (s := { s with
      txlog := s.txlog ++ enc s.cfg b, rsp := s.rsp ++ [⟨true, .ok, 0x00#8⟩]
      cmdq := bs.map (fun b => commandWord s.cfg (.sendByte b)) ++ ws }) hw hb hg ho rfl
    simp only [List.append_assoc] at hrest
    exact (drive_sendByte _ hw hb hg ho hc).trans hrest

/-- The words of BEGIN_SEND t, one SEND_BYTE for each byte, and END_SEND write the whole frame. -/
theorem drive_composition (t : Byte) (ps : List Byte) (hw : s.cfg.wf = true) (hb : s.nextBusy = false)
    (hg : s.collect = none) (ho : s.txOpen = false)
    (hc : s.cmdq = commandWord s.cfg (.beginSend t) ::
      (ps.map (fun b => commandWord s.cfg (.sendByte b)) ++ [commandWord s.cfg .endSend])) :
    drive (List.replicate (ps.length + 2) .host) s = .next
      { s with
        txlog := s.txlog ++ frame s.cfg t ps
        rsp := s.rsp ++ List.replicate (ps.length + 2) ⟨true, .ok, 0x00#8⟩, cmdq := [], sched := [] } := by
  have hbytes := drive_sendBytes (s := { s with
    txOpen := true, txlog := s.txlog ++ openBytes s.cfg t, rsp := s.rsp ++ [⟨true, .ok, 0x00#8⟩]
    cmdq := ps.map (fun b => commandWord s.cfg (.sendByte b)) ++ [commandWord s.cfg .endSend] })
    (ws := [commandWord s.cfg .endSend]) ps [.host] hw hb hg rfl rfl
  have hend := drive_endSend (s := { s with
    txOpen := true, txlog := s.txlog ++ openBytes s.cfg t ++ ps.flatMap (enc s.cfg)
    rsp := s.rsp ++ [⟨true, .ok, 0x00#8⟩] ++ List.replicate ps.length ⟨true, .ok, 0x00#8⟩
    cmdq := [commandWord s.cfg .endSend] }) (ws := []) [] hw hb hg rfl rfl
  have hlog : s.txlog ++ openBytes s.cfg t ++ ps.flatMap (enc s.cfg) ++ closeBytes s.cfg = s.txlog ++ frame s.cfg t ps := by
    rw [frame_eq, List.append_assoc, List.append_assoc, List.append_assoc]
  have hrsp : s.rsp ++ [⟨true, .ok, 0x00#8⟩] ++ List.replicate ps.length ⟨true, .ok, 0x00#8⟩ ++ [⟨true, .ok, 0x00#8⟩] =
      s.rsp ++ List.replicate (ps.length + 2) (⟨true, .ok, 0x00#8⟩ : Response) := by
    rw [List.replicate_succ, List.replicate_succ', List.append_assoc, List.append_assoc]
    rfl
  rw [List.replicate_succ, List.replicate_succ', drive_beginSend _ hw hb hg ho hc, hbytes, hend, drive_nil]
  simp only [hlog, hrsp, ho]

end Turns

end Sys2Proof.Machine
end

section
/-! PROOFS. The obligation on SEND_BUF and its composition. -/

namespace Sys2Proof.Machine

/-- Settles O35: both word lists reduce to the frame's bytes, or to the refusal of the guard. -/
theorem sendBufEqualsItsComposition : Obligations.SendBufEqualsItsComposition := by
  unfold Obligations.SendBufEqualsItsComposition
  intro s t ps hw hb hg hlen
  have hsend : exec (.send t) s = .next (s.sendWhole t []) := onCommand_free (fun s => s.sendWhole t []) hb hg
  have hbuf := drive_sendBuf (s := { s with
    cmdq := commandWord s.cfg (.sendBuf t (BitVec.ofNat 16 ps.length)) ::
      ps.map (fun b => commandWord s.cfg (.sendBufData b)) }) t ps hw hb hg hlen rfl
  refine ⟨fun hclosed => ⟨?_, ?_, ?_⟩, fun hopen => ⟨?_, ?_⟩⟩
  · rw [hbuf, sendWhole_of_not_txOpen (by exact hclosed)]
    rfl
  · exact drive_composition (s := { s with cmdq := _ }) t ps hw hb hg hclosed rfl
  · rw [hsend, sendWhole_of_not_txOpen hclosed]
  · rw [hbuf, sendWhole_of_txOpen (by exact hopen)]
    rfl
  · rw [hsend, sendWhole_of_txOpen hopen]

end Sys2Proof.Machine
end

section
/-! PROOFS. Frames on the RX queue: how the engine steps over an encoded byte, a frame's opening and the rest of a frame (R102, R106, R109, R111,
R123), and how the polls of a NEXT step over them (R149). -/

namespace Sys2Proof.Machine

section Engine

variable {s : State} {q : List Byte}

/-! ## The engine in IDLE -/

/-- A pair that is no frame start is dropped in IDLE (R105, R107, R108). -/
theorem drive_idle_code {c : Byte} (ms : List Move) (hw : s.cfg.wf = true) (hr : s.rxState = .idle)
    (he : s.escPending = true) (hc : c ≠ START) (hq : s.rxq = c :: q) :
    drive (.engine :: ms) s = drive ms { s with rxq := q, escPending := false } := by
  rw [drive_engine ms hw (by simp [hr]) hq, rxStepSpec_idle_pair (by exact hr) (by exact he), if_neg hc]

theorem drive_idle_pair {c : Byte} (ms : List Move) (hw : s.cfg.wf = true) (hr : s.rxState = .idle)
    (he : s.escPending = false) (hc : c ≠ START) (hq : s.rxq = s.cfg.esc :: c :: q) :
    drive (.engine :: .engine :: ms) s = drive ms { s with rxq := q } := by
  rw [drive_engine_pair ms hw (by simp [hr]) he hq, rxStepSpec_idle_pair (by exact hr) rfl, if_neg hc, ← he]

/-- An encoded data byte is discarded in IDLE (R103, R107). -/
theorem drive_idle_enc (p : Byte) (ms : List Move) (hw : s.cfg.wf = true) (hr : s.rxState = .idle)
    (he : s.escPending = false) (hq : s.rxq = enc s.cfg p ++ q) :
    drive (List.replicate (enc s.cfg p).length .engine ++ ms) s = drive ms { s with rxq := q } := by
  obtain ⟨hlit, -⟩ := (config_wf_iff s.cfg).1 hw
  by_cases hp : p = s.cfg.esc
  · rw [hp, enc_esc] at hq ⊢
    exact drive_idle_pair ms hw hr he hlit hq
  · rw [enc_of_ne hp] at hq ⊢
    refine (drive_engine ms hw (by simp [hr]) hq).trans ?_
    rw [rxStepSpec_idle (by exact hr) (by exact he), if_neg (by exact hp)]
    rfl

theorem drive_idle_payload (ps : List Byte) (ms : List Move) (hw : s.cfg.wf = true) (hr : s.rxState = .idle)
    (he : s.escPending = false) (hq : s.rxq = ps.flatMap (enc s.cfg) ++ q) :
    drive (List.replicate (ps.flatMap (enc s.cfg)).length .engine ++ ms) s = drive ms { s with rxq := q } := by
  induction ps generalizing s with
  | nil => exact congrArg (fun q => drive ms { s with rxq := q }) hq
  | cons p ps ih =>
    rw [List.flatMap_cons, List.append_assoc] at hq
    rw [List.flatMap_cons, List.length_append, List.replicate_add, List.append_assoc, drive_idle_enc p _ hw hr he hq]
    exact ih (s := { s with rxq := ps.flatMap (enc s.cfg) ++ q }) hw hr he rfl

/-- The rest of a frame, from any of its token boundaries, is discarded in IDLE up to and with ESC END (R123). -/
theorem drive_idle_rest (ps : List Byte) (hw : s.cfg.wf = true) (hr : s.rxState = .idle) (he : s.escPending = false)
    (hq : s.rxq = ps.flatMap (enc s.cfg) ++ (closeBytes s.cfg ++ q)) :
    drive (List.replicate (ps.flatMap (enc s.cfg) ++ closeBytes s.cfg).length .engine) s =
      .next { s with rxq := q, sched := [] } := by
  rw [List.length_append, List.replicate_add, drive_idle_payload ps _ hw hr he hq]
  exact drive_idle_pair (s := { s with rxq := closeBytes s.cfg ++ q }) [] hw hr he end_ne_start rfl

/-- The same for whatever is left of a frame, also from inside an escape pair (R162). -/
theorem drive_idle_leftover {ps r : List Byte} (hw : s.cfg.wf = true) (hr : s.rxState = .idle) (hq : s.rxq = r ++ q)
    (hleft : s.escPending = false ∧ r = ps.flatMap (enc s.cfg) ++ closeBytes s.cfg ∨
      s.escPending = true ∧ r = s.cfg.literal :: (ps.flatMap (enc s.cfg) ++ closeBytes s.cfg) ∨
      s.escPending = true ∧ r = [END]) :
    drive (List.replicate r.length .engine) s = .next { s with rxq := q, escPending := false, sched := [] } := by
  obtain ⟨hlit, -⟩ := (config_wf_iff s.cfg).1 hw
  obtain ⟨he, rfl⟩ | ⟨he, rfl⟩ | ⟨he, rfl⟩ := hleft
  · rw [drive_idle_rest ps hw hr he (hq.trans (List.append_assoc _ _ _)), ← he]
  · rw [List.length_cons, List.replicate_succ, drive_idle_code _ hw hr he hlit hq]
    exact drive_idle_rest
      (s := { s with rxq := ps.flatMap (enc s.cfg) ++ closeBytes s.cfg ++ q, escPending := false }) ps hw hr rfl
      (List.append_assoc _ _ _)
  · exact drive_idle_code [] hw hr he end_ne_start hq

/-! ## A frame's opening: ESC START and its Type -/

/-- ESC START outside a dispatch leads to AWAIT_TYPE, from IDLE and from AWAIT_TYPE itself (R106, R112). -/
theorem drive_start (ms : List Move) (hw : s.cfg.wf = true) (hr : s.rxState ≠ .dispatching) (he : s.escPending = false)
    (hq : s.rxq = s.cfg.esc :: START :: q) :
    drive (.engine :: .engine :: ms) s = drive ms { s with rxState := .awaitType, rxq := q } := by
  obtain ⟨hlit, -⟩ := (config_wf_iff s.cfg).1 hw
  rw [drive_engine_pair ms hw hr he hq]
  obtain ⟨r, hs⟩ : ∃ r, s.rxState = r := ⟨_, rfl⟩
  cases r with
  | idle => rw [rxStepSpec_idle_pair (by exact hs) rfl, if_pos rfl, ← he]
  | awaitType =>
    rw [rxStepSpec_awaitType_pair (by exact hs) rfl, if_neg (by exact hlit.symm), if_pos rfl, ← he, ← hs]
  | dispatching => exact absurd hs hr

/-- In AWAIT_TYPE the engine steps over an encoded Type into the dispatcher (R109, R111). -/
theorem drive_type (t : Byte) (ms : List Move) (hw : s.cfg.wf = true) (hr : s.rxState = .awaitType)
    (he : s.escPending = false) (hq : s.rxq = enc s.cfg t ++ q) :
    drive (List.replicate (enc s.cfg t).length .engine ++ ms) s =
      drive ms (({ s with rxq := q } : State).typeDecoded t) := by
  by_cases ht : t = s.cfg.esc
  · rw [ht, enc_esc] at hq ⊢
    refine (drive_engine_pair ms hw (by simp [hr]) he hq).trans ?_
    rw [rxStepSpec_awaitType_pair (by exact hr) rfl, if_pos rfl, ← he]
    rfl
  · rw [enc_of_ne ht] at hq ⊢
    refine (drive_engine ms hw (by simp [hr]) hq).trans ?_
    rw [rxStepSpec_awaitType (by exact hr) (by exact he), if_neg (by exact ht)]
    rfl

/-- Over the whole opening of a frame whose Type hits, the engine goes into its dispatch (R121, R124). -/
theorem drive_openBytes {t : Byte} {h : HandlerId} (ms : List Move) (hw : s.cfg.wf = true) (hr : s.rxState ≠ .dispatching)
    (he : s.escPending = false) (hl : s.lookup t = some h) (hq : s.rxq = openBytes s.cfg t ++ q) :
    drive (List.replicate (openBytes s.cfg t).length .engine ++ ms) s =
      drive ms (({ s with rxq := q } : State).dispatchTo h t) := by
  have htype := drive_type (s := { s with rxState := .awaitType, rxq := enc s.cfg t ++ q }) t ms hw rfl he rfl
  have hhit := typeDecoded_hit (s := { s with rxState := .awaitType, rxq := q }) (h := h) (t := t) hl
  exact (drive_start _ hw hr he hq).trans (htype.trans (congrArg (drive ms) hhit))

/-- Engine turns inside a dispatch are used up (log 2). -/
theorem drive_engine_dispatching (k : Nat) (hw : s.cfg.wf = true) (hr : s.rxState = .dispatching) :
    drive (List.replicate k .engine) s = .next { s with sched := [] } := by
  induction k with
  | zero => rfl
  | succ k ih =>
    rw [List.replicate_succ, drive_cons (step_of_disabled _ hw (.inl ⟨rfl, .inl hr⟩)) rfl]
    exact ih

/-- No engine turn before the end of a frame's opening dispatches (R124). -/
theorem drive_openBytes_disp {t : Byte} {n : Nat} (hw : s.cfg.wf = true) (hr : s.rxState ≠ .dispatching)
    (he : s.escPending = false) (hq : s.rxq = openBytes s.cfg t ++ q) (hn : n < (openBytes s.cfg t).length) :
    ∃ u, drive (List.replicate n .engine) s = .next u ∧ u.disp = s.disp := by
  have firstEsc {v : State} {p : List Byte} (hw : v.cfg.wf = true) (hr : v.rxState ≠ .dispatching)
      (he : v.escPending = false) (hq : v.rxq = v.cfg.esc :: p) :
      drive [.engine] v = .next { v with rxq := p, escPending := true, sched := [] } := by
    rw [drive_engine [] hw hr hq]
    exact congrArg (drive []) (rxStepSpec_esc (s := { v with rxq := p }) hr he)
  match n with
  | 0 => exact ⟨_, drive_nil s, rfl⟩
  | 1 => exact ⟨_, firstEsc hw hr he hq, rfl⟩
  | 2 => exact ⟨_, drive_start [] hw hr he hq, rfl⟩
  | 3 =>
    have ht : t = s.cfg.esc := by
      by_contra hne
      rw [openBytes_length, enc_of_ne hne] at hn
      exact absurd hn (Nat.lt_irrefl 3)
    rw [ht, openBytes_eq, enc_esc] at hq
    refine ⟨_, (drive_start [.engine] hw hr he hq).trans (firstEsc (by exact hw) ?_ (by exact he) rfl), rfl⟩
    nofun
  | n + 4 =>
    rw [openBytes_length, enc_length] at hn
    split at hn <;> omega

end Engine

/-! ## The payload cursor -/

section Cursor

variable {s : State} {q : List Byte} {w : CmdWord} {ws : List CmdWord}

/-- NEXT on an open message is in progress (R146). -/
theorem drive_next (ms : List Move) (hw : s.cfg.wf = true) (hr : s.rxState = .dispatching) (hm : s.msgOpen = true)
    (hb : s.nextBusy = false) (hg : s.collect = none) (hc : s.cmdq = w :: ws) (hi : decodeCommand w = .next) :
    drive (.host :: ms) s = drive ms { s with cmdq := ws, nextBusy := true, retry := 0 } := by
  have hrun := (command_free (v := { s with cmdq := ws, sched := ms }) State.nextStart hg).trans
    (nextStart_open (s := { s with cmdq := ws, sched := ms }) hr hm)
  exact (drive_word ms hw hb hc hi hrun).trans rfl

/-- RETURN leaves a dispatch by after_return (R160). -/
theorem drive_return (ms : List Move) (hw : s.cfg.wf = true) (hr : s.rxState = .dispatching) (hb : s.nextBusy = false)
    (hg : s.collect = none) (hc : s.cmdq = w :: ws) (hi : decodeCommand w = .ret) :
    drive (.host :: ms) s = drive ms
      { s with
        rxState := s.afterReturn.rxState, msgOpen := false, curHandler := none, curType := none, afterReturn := .idle
        rsp := s.rsp ++ [⟨true, .ok, 0x00#8⟩], cmdq := ws } := by
  have hrun := (command_free (v := { s with cmdq := ws, sched := ms }) State.handlerReturn hg).trans
    (handlerReturn_dispatching (s := { s with cmdq := ws, sched := ms }) hr)
  exact (drive_word ms hw hb hc hi hrun).trans rfl

/-- The polls of a NEXT over an encoded data byte deliver it (R150 to R152). -/
theorem drive_poll_enc (p : Byte) (ms : List Move) (hw : s.cfg.wf = true) (hb : s.nextBusy = true)
    (he : s.escPending = false) (hq : s.rxq = enc s.cfg p ++ q) :
    drive (List.replicate (enc s.cfg p).length .poll ++ ms) s = drive ms (finishSpec { s with rxq := q } .ok p) := by
  by_cases hp : p = s.cfg.esc
  · rw [hp, enc_esc] at hq ⊢
    refine (drive_poll_pair ms hw hb he hq).trans ?_
    rw [nextPollSpec_pair rfl rfl, if_pos rfl, ← he]
    rfl
  · rw [enc_of_ne hp] at hq ⊢
    refine (drive_poll ms hw hb).trans ?_
    rw [nextPollSpec_byte he hq, if_neg hp]
    rfl

/-- The polls of a NEXT over ESC END close the message (R151, R155). -/
theorem drive_poll_closeBytes (ms : List Move) (hw : s.cfg.wf = true) (hb : s.nextBusy = true)
    (he : s.escPending = false) (hq : s.rxq = closeBytes s.cfg ++ q) :
    drive (.poll :: .poll :: ms) s = drive ms (finishSpec { s with rxq := q, msgOpen := false } .closed SENTINEL) := by
  obtain ⟨-, hlit, -⟩ := (config_wf_iff s.cfg).1 hw
  rw [drive_poll_pair ms hw hb he hq, nextPollSpec_pair rfl rfl, if_neg (by exact hlit.symm), if_neg end_ne_start,
    if_pos rfl, ← he]
  rfl

/-- One NEXT with its polls for each byte of a payload delivers the payload in order. -/
theorem drive_payload (ps : List Byte) (ms : List Move) (hw : s.cfg.wf = true) (hr : s.rxState = .dispatching)
    (hm : s.msgOpen = true) (hb : s.nextBusy = false) (hg : s.collect = none) (he : s.escPending = false)
    (hi : decodeCommand w = .next) (hq : s.rxq = ps.flatMap (enc s.cfg) ++ q)
    (hc : s.cmdq = List.replicate ps.length w ++ ws) :
    ∃ k, drive (ps.flatMap (fun p => .host :: List.replicate (enc s.cfg p).length .poll) ++ ms) s = drive ms
      { s with rxq := q, cmdq := ws, retry := k, rsp := s.rsp ++ ps.map (fun p => ⟨true, .ok, p⟩) } := by
  induction ps generalizing s with
  | nil =>
    have hkeep : s = { s with rxq := q, cmdq := ws } := by
      rw [← hq.trans (List.nil_append q), ← hc.trans (List.nil_append ws)]
    refine ⟨s.retry, ?_⟩
    rw [List.map_nil, List.append_nil]
    exact congrArg _ hkeep
  | cons p ps ih =>
    rw [List.flatMap_cons, List.append_assoc] at hq
    have hnext := drive_next (List.replicate (enc s.cfg p).length .poll ++
      (ps.flatMap (fun p => .host :: List.replicate (enc s.cfg p).length .poll) ++ ms)) hw hr hm hb hg hc hi
    have hpolls := drive_poll_enc (s := { s with
      cmdq := List.replicate ps.length w ++ ws, nextBusy := true, retry := 0 }) p
      (ps.flatMap (fun p => .host :: List.replicate (enc s.cfg p).length .poll) ++ ms) hw rfl he hq
    obtain ⟨k, hrest⟩ := ih (s := { s with
      rxq := ps.flatMap (enc s.cfg) ++ q, cmdq := List.replicate ps.length w ++ ws, nextBusy := false, retry := 0
      rsp := s.rsp ++ [⟨true, .ok, p⟩] }) hw hr hm rfl hg he rfl rfl
    refine ⟨k, ?_⟩
    simp only [List.append_assoc] at hrest
    rw [List.flatMap_cons, List.cons_append, List.cons_append, List.append_assoc, hb]
    exact hnext.trans (hpolls.trans hrest)

end Cursor

end Sys2Proof.Machine
end

section
/-! PROOFS. The obligations on frames: dispatched once (R124), skipped on a miss (R123), resynchronised (R125), read through the cursor (R159), left
early (R162). -/

namespace Sys2Proof.Machine

/-- A step that adds an event is RxStep on a Type token that hits (R121): no other turn writes the events. -/
theorem Turn.disp_cases {s u : State} (h : Turn s u) : u.disp = s.disp ∨
    ∃ ms b q t h, s.sched = .engine :: ms ∧ s.rxq = b :: q ∧
      (decode s.cfg (.byte .awaitType s.escPending b) = .rxAwaitType t ∨
        decode s.cfg (.byte .awaitType s.escPending b) = .rxAwaitEscLiteral ∧ t = s.cfg.esc) ∧
      s.rxState = .awaitType ∧ s.lookup t = some h ∧ u.disp = s.disp ++ [(h, t)] := by
  cases h with
  | waits _ hu | arrives _ hu | unused _ _ hu => exact .inl (by rw [hu])
  | resets _ hu => exact .inl (by rw [hu]; rfl)
  | engine hs _ hq hout =>
    cases hout with
    | moves _ _ hu => exact .inl (by rw [hu])
    | dispatches hr ht hl _ hu => exact .inr ⟨_, _, _, _, _, hs, hq, ht, hr, hl, by rw [hu]; rfl⟩
  | poll _ _ hout =>
    obtain ⟨_, _, _, _, _, _, _, -, hu⟩ := hout.frame
    exact .inl (by rw [hu])
  | host _ _ _ _ heffect =>
    cases heffect with
    | send _ hu =>
      obtain ⟨_, _, _, _, -, hu⟩ := hu
      exact .inl (by rw [hu])
    | registers _ _ hu | drains _ _ _ _ hu | starts _ _ _ hu | returns _ _ hu | answers _ _ hu =>
      exact .inl (by rw [hu])

/-- Settles O10: the opening dispatches at its end, the dispatch uses up the engine's turns, and no other turn adds an event. -/
theorem frameDispatchesExactlyOnce : Obligations.FrameDispatchesExactlyOnce := by
  unfold Obligations.FrameDispatchesExactlyOnce
  refine ⟨fun s t h q hw hr he hl hq => ⟨fun n hn => drive_openBytes_disp hw hr he hq hn, fun k => ?after⟩,
    fun s u hstep hne => ?event⟩
  case after =>
    rw [List.replicate_add, drive_openBytes _ hw hr he hl hq]
    exact ⟨_, drive_engine_dispatching k (by exact hw) rfl, rfl, rfl, rfl⟩
  case event =>
    obtain ⟨-, hturn⟩ := turn_of_step hstep
    exact hturn.disp_cases.resolve_left hne

/-- Settles O11: the missed Type leads to IDLE, where the rest of the frame is discarded. -/
theorem missedFrameIsSkipped : Obligations.MissedFrameIsSkipped := by
  unfold Obligations.MissedFrameIsSkipped
  intro s t ps q hw hr he hl hq
  simp only [List.append_assoc] at hq
  have hmiss := typeDecoded_miss (s := { s with rxq := ps.flatMap (enc s.cfg) ++ (closeBytes s.cfg ++ q) }) (t := t) hl
  rw [List.append_assoc, List.length_append, List.replicate_add, drive_type t _ hw hr he hq, hmiss]
  exact drive_idle_rest
    (s := { s with rxState := .idle, rxq := ps.flatMap (enc s.cfg) ++ (closeBytes s.cfg ++ q) }) ps hw rfl he rfl

/-- Settles O12: ESC START, then the rest of the opening. -/
theorem escStartResynchronises : Obligations.EscStartResynchronises := by
  unfold Obligations.EscStartResynchronises
  intro s q hw hr he
  refine ⟨fun hq => drive_start [] hw hr he hq, fun t h hl hq => ?_⟩
  rw [← List.append_nil (List.replicate _ Move.engine), drive_openBytes [] hw hr he hl hq]
  rfl

/-- Settles O27: RETURN leads to IDLE, where the engine discards what is left of the message from any place inside it. -/
theorem earlyReturnSkipsTheRest : Obligations.EarlyReturnSkipsTheRest := by
  unfold Obligations.EarlyReturnSkipsTheRest
  intro s w ws ps r q hw hdisp hb hg ha hi hc hq hleft
  rw [drive_return _ hw hdisp hb hg hc hi, ha]
  exact drive_idle_leftover
    (s := { s with
      rxState := .idle, msgOpen := false, curHandler := none, curType := none, afterReturn := .idle
      rsp := s.rsp ++ [⟨true, .ok, 0x00#8⟩], cmdq := ws }) hw rfl hq hleft

/-- Settles O29: the opening dispatches, each NEXT delivers its byte, and the last one finds ESC END. -/
theorem frameRoundTripsThroughTheCursor : Obligations.FrameRoundTripsThroughTheCursor := by
  unfold Obligations.FrameRoundTripsThroughTheCursor
  intro s t h ps q w ws hw hr he hb hg hl hq hi hc
  rw [frame_eq, List.append_assoc, List.append_assoc] at hq
  rw [List.replicate_succ', List.append_assoc] at hc
  rw [List.append_assoc, drive_openBytes _ hw hr he hl hq]
  obtain ⟨k, hpayload⟩ := drive_payload
    (s := ({ s with rxq := ps.flatMap (enc s.cfg) ++ (closeBytes s.cfg ++ q) } : State).dispatchTo h t)
    ps [.host, .poll, .poll] hw rfl rfl hb hg he hi rfl hc
  have hnext := drive_next
    (s := { ({ s with rxq := closeBytes s.cfg ++ q } : State).dispatchTo h t with
      cmdq := w :: ws, retry := k, rsp := s.rsp ++ ps.map (fun p => ⟨true, .ok, p⟩) })
    [.poll, .poll] hw rfl rfl hb hg rfl hi
  have hclose := drive_poll_closeBytes
    (s := { ({ s with rxq := closeBytes s.cfg ++ q } : State).dispatchTo h t with
      cmdq := ws, nextBusy := true, retry := 0, rsp := s.rsp ++ ps.map (fun p => ⟨true, .ok, p⟩) })
    [] hw rfl he rfl
  refine hpayload.trans (hnext.trans (hclose.trans ?_))
  rw [drive_nil]
  simp only [finishSpec, State.dispatchTo, hb]

end Sys2Proof.Machine
end
